-- ==== Sys2Proof/Word.lean ====
section
/-! DEFINITION. The word types, the Pixel, and the grids with the fixed sizes of 00_scope R4 (7 strips, 36 LEDs a strip, 72 Frame
Buffer columns, 252 LEDs). -/

namespace Sys2Proof

/-- A stored byte, a colour channel, a symbol code or a transmitter reply. -/
abbrev Byte := BitVec 8

/-- A host register word (10_state R20). -/
abbrev Word := BitVec 16

/-- A host transaction in format BUS20 (30_encoding R50). -/
abbrev Transaction := BitVec 20

/-- Three independent 8-bit channels (10_state R11). The printed form `RRGGBB` is notation only and is not modelled. -/
structure Pixel where
  red   : Byte
  green : Byte
  blue  : Byte
deriving DecidableEq, Repr

/-- The Pixel "default 0 (off/black)" of 10_state R11. -/
def Pixel.black : Pixel := ⟨0, 0, 0⟩

/-- The Frame Buffer: 7 strips of 72 Pixels, its dimensions fixed (10_state R14). -/
abbrev FrameBuffer := Vector (Vector Pixel 72) 7

/-- The Mask: 7 strips of 36 Booleans (10_state R15). -/
abbrev MaskGrid := Vector (Vector Bool 36) 7

/-- A frame: one Pixel for each physical LED, element 0 first (45_display R104). -/
abbrev Frame := Vector Pixel 252

end Sys2Proof
end

