-- ==== Sys2Proof/Config.lean ====
section
/-! DEFINITION. The configuration record of 00_scope R5 (what the source leaves open and a device fixes) and the free value of the
transmitter's reply (93 U7). -/

namespace Sys2Proof

/-- The direction a strip is wired in (45_display R102). -/
inductive Dir where
  | asc
  | desc
deriving DecidableEq, Repr

/-- The bitmap of one symbol code: seven stored bytes, row 0 first, of which only bits 4:0 carry ink (40_font R71). -/
abbrev Glyph := Vector Byte 7

/-- The configuration parameters of 00_scope R5, plain data. CONVERT is held as its three channel tables, because each output
channel depends only on its own input field (41_color R75); DEDUCED, safe, log entry 6. Whether a record is a valid
configuration (R6) is `Config.valid`. -/
structure Config where
  /-- FONT: the stored glyph of each of the 256 codes. -/
  font : Vector Glyph 256
  /-- SLOT_COL: the column origin of positions 1 to 6, position 1 first. -/
  slotCol : Vector Nat 6
  /-- DIR: the direction of strips 0 to 6. -/
  dir : Vector Dir 7
  /-- The red channel of CONVERT, by the 5-bit red field. -/
  red : Vector Byte 32
  /-- The green channel of CONVERT, by the 6-bit green field. -/
  green : Vector Byte 64
  /-- The blue channel of CONVERT, by the 5-bit blue field. -/
  blue : Vector Byte 32
  /-- PAYLOAD_HIGH_FIRST: the high byte of a payload word is the earlier symbol. -/
  payloadHighFirst : Bool
deriving DecidableEq, Repr

/-- THE FREE VALUE of this model: the reply the transmitter gives to the frame of the n-th draw, where the environment has not
settled it (45_display R104, 93 U7: any value in 0..255). No body: nothing can be proved of it. Log entry 7. -/
opaque Config.txReply : Nat → Byte

end Sys2Proof
end

