-- ==== Sys2Proof/Machine/Defaults.lean ====
section
/-! DEFINITION. The default column of 00_scope R5: REF_FONT (40_font R73), the default slot and direction tables (42_glyph R81,
45_display R102), bit replication (41_color R76), high byte first (44_text R95). They are the spec's own choices, the font from
general knowledge; only the reset state uses them (log entries 3, 4 and 5). -/

namespace Sys2Proof.Machine

/-- REF_FONT, codes 0x20 to 0x2F (40_font R73). -/
def refGlyphs20 : List Glyph := [
  #v[0x00, 0x00, 0x00, 0x00, 0x00, 0x00, 0x00],
  #v[0x04, 0x04, 0x04, 0x04, 0x04, 0x00, 0x04],
  #v[0x0A, 0x0A, 0x0A, 0x00, 0x00, 0x00, 0x00],
  #v[0x0A, 0x0A, 0x1F, 0x0A, 0x1F, 0x0A, 0x0A],
  #v[0x04, 0x0F, 0x14, 0x0E, 0x05, 0x1E, 0x04],
  #v[0x18, 0x19, 0x02, 0x04, 0x08, 0x13, 0x03],
  #v[0x0C, 0x12, 0x14, 0x08, 0x15, 0x12, 0x0D],
  #v[0x0C, 0x04, 0x08, 0x00, 0x00, 0x00, 0x00],
  #v[0x02, 0x04, 0x08, 0x08, 0x08, 0x04, 0x02],
  #v[0x08, 0x04, 0x02, 0x02, 0x02, 0x04, 0x08],
  #v[0x00, 0x0A, 0x04, 0x1F, 0x04, 0x0A, 0x00],
  #v[0x00, 0x04, 0x04, 0x1F, 0x04, 0x04, 0x00],
  #v[0x00, 0x00, 0x00, 0x00, 0x0C, 0x04, 0x08],
  #v[0x00, 0x00, 0x00, 0x1F, 0x00, 0x00, 0x00],
  #v[0x00, 0x00, 0x00, 0x00, 0x00, 0x0C, 0x0C],
  #v[0x00, 0x01, 0x02, 0x04, 0x08, 0x10, 0x00]]

/-- REF_FONT, codes 0x30 to 0x3F (40_font R73). -/
def refGlyphs30 : List Glyph := [
  #v[0x0E, 0x11, 0x13, 0x15, 0x19, 0x11, 0x0E],
  #v[0x04, 0x0C, 0x04, 0x04, 0x04, 0x04, 0x0E],
  #v[0x0E, 0x11, 0x01, 0x02, 0x04, 0x08, 0x1F],
  #v[0x1F, 0x02, 0x04, 0x02, 0x01, 0x11, 0x0E],
  #v[0x02, 0x06, 0x0A, 0x12, 0x1F, 0x02, 0x02],
  #v[0x1F, 0x10, 0x1E, 0x01, 0x01, 0x11, 0x0E],
  #v[0x06, 0x08, 0x10, 0x1E, 0x11, 0x11, 0x0E],
  #v[0x1F, 0x01, 0x02, 0x04, 0x08, 0x08, 0x08],
  #v[0x0E, 0x11, 0x11, 0x0E, 0x11, 0x11, 0x0E],
  #v[0x0E, 0x11, 0x11, 0x0F, 0x01, 0x02, 0x0C],
  #v[0x00, 0x0C, 0x0C, 0x00, 0x0C, 0x0C, 0x00],
  #v[0x00, 0x0C, 0x0C, 0x00, 0x0C, 0x04, 0x08],
  #v[0x01, 0x02, 0x04, 0x08, 0x04, 0x02, 0x01],
  #v[0x00, 0x00, 0x1F, 0x00, 0x1F, 0x00, 0x00],
  #v[0x10, 0x08, 0x04, 0x02, 0x04, 0x08, 0x10],
  #v[0x0E, 0x11, 0x01, 0x02, 0x04, 0x00, 0x04]]

/-- REF_FONT, codes 0x40 to 0x4F (40_font R73). -/
def refGlyphs40 : List Glyph := [
  #v[0x0E, 0x11, 0x01, 0x0D, 0x15, 0x15, 0x0E],
  #v[0x0E, 0x11, 0x11, 0x11, 0x1F, 0x11, 0x11],
  #v[0x1E, 0x11, 0x11, 0x1E, 0x11, 0x11, 0x1E],
  #v[0x0E, 0x11, 0x10, 0x10, 0x10, 0x11, 0x0E],
  #v[0x1C, 0x12, 0x11, 0x11, 0x11, 0x12, 0x1C],
  #v[0x1F, 0x10, 0x10, 0x1E, 0x10, 0x10, 0x1F],
  #v[0x1F, 0x10, 0x10, 0x1C, 0x10, 0x10, 0x10],
  #v[0x0E, 0x11, 0x10, 0x10, 0x13, 0x11, 0x0E],
  #v[0x11, 0x11, 0x11, 0x1F, 0x11, 0x11, 0x11],
  #v[0x0E, 0x04, 0x04, 0x04, 0x04, 0x04, 0x0E],
  #v[0x07, 0x02, 0x02, 0x02, 0x02, 0x12, 0x0C],
  #v[0x11, 0x12, 0x14, 0x18, 0x14, 0x12, 0x11],
  #v[0x10, 0x10, 0x10, 0x10, 0x10, 0x10, 0x1F],
  #v[0x11, 0x1B, 0x15, 0x11, 0x11, 0x11, 0x11],
  #v[0x11, 0x11, 0x19, 0x15, 0x13, 0x11, 0x11],
  #v[0x0E, 0x11, 0x11, 0x11, 0x11, 0x11, 0x0E]]

/-- REF_FONT, codes 0x50 to 0x5F (40_font R73). -/
def refGlyphs50 : List Glyph := [
  #v[0x1E, 0x11, 0x11, 0x1E, 0x10, 0x10, 0x10],
  #v[0x0E, 0x11, 0x11, 0x11, 0x15, 0x12, 0x0D],
  #v[0x1E, 0x11, 0x11, 0x1E, 0x14, 0x12, 0x11],
  #v[0x0F, 0x10, 0x10, 0x0E, 0x01, 0x01, 0x1E],
  #v[0x1F, 0x04, 0x04, 0x04, 0x04, 0x04, 0x04],
  #v[0x11, 0x11, 0x11, 0x11, 0x11, 0x11, 0x0E],
  #v[0x11, 0x11, 0x11, 0x11, 0x11, 0x0A, 0x04],
  #v[0x11, 0x11, 0x11, 0x15, 0x15, 0x1B, 0x11],
  #v[0x11, 0x11, 0x0A, 0x04, 0x0A, 0x11, 0x11],
  #v[0x11, 0x11, 0x0A, 0x04, 0x04, 0x04, 0x04],
  #v[0x1F, 0x01, 0x02, 0x04, 0x08, 0x10, 0x1F],
  #v[0x07, 0x04, 0x04, 0x04, 0x04, 0x04, 0x07],
  #v[0x00, 0x10, 0x08, 0x04, 0x02, 0x01, 0x00],
  #v[0x1C, 0x04, 0x04, 0x04, 0x04, 0x04, 0x1C],
  #v[0x04, 0x0A, 0x11, 0x00, 0x00, 0x00, 0x00],
  #v[0x00, 0x00, 0x00, 0x00, 0x00, 0x00, 0x1F]]

/-- REF_FONT, codes 0x60 to 0x6F (40_font R73). -/
def refGlyphs60 : List Glyph := [
  #v[0x08, 0x04, 0x02, 0x00, 0x00, 0x00, 0x00],
  #v[0x00, 0x00, 0x0E, 0x01, 0x0F, 0x11, 0x0F],
  #v[0x10, 0x10, 0x16, 0x19, 0x11, 0x11, 0x1E],
  #v[0x00, 0x00, 0x0E, 0x10, 0x10, 0x11, 0x0E],
  #v[0x01, 0x01, 0x0D, 0x13, 0x11, 0x11, 0x0F],
  #v[0x00, 0x00, 0x0E, 0x11, 0x1F, 0x10, 0x0E],
  #v[0x06, 0x09, 0x08, 0x1C, 0x08, 0x08, 0x08],
  #v[0x00, 0x00, 0x0F, 0x11, 0x0F, 0x01, 0x06],
  #v[0x10, 0x10, 0x16, 0x19, 0x11, 0x11, 0x11],
  #v[0x04, 0x00, 0x0C, 0x04, 0x04, 0x04, 0x0E],
  #v[0x02, 0x00, 0x06, 0x02, 0x02, 0x12, 0x0C],
  #v[0x08, 0x08, 0x09, 0x0A, 0x0C, 0x0A, 0x09],
  #v[0x0C, 0x04, 0x04, 0x04, 0x04, 0x04, 0x0E],
  #v[0x00, 0x00, 0x1A, 0x15, 0x15, 0x11, 0x11],
  #v[0x00, 0x00, 0x16, 0x19, 0x11, 0x11, 0x11],
  #v[0x00, 0x00, 0x0E, 0x11, 0x11, 0x11, 0x0E]]

/-- REF_FONT, codes 0x70 to 0x7F (40_font R73). -/
def refGlyphs70 : List Glyph := [
  #v[0x00, 0x00, 0x1E, 0x11, 0x1E, 0x10, 0x10],
  #v[0x00, 0x00, 0x0D, 0x13, 0x0F, 0x01, 0x01],
  #v[0x00, 0x00, 0x16, 0x19, 0x10, 0x10, 0x10],
  #v[0x00, 0x00, 0x0E, 0x10, 0x0E, 0x01, 0x1E],
  #v[0x08, 0x08, 0x1C, 0x08, 0x08, 0x09, 0x06],
  #v[0x00, 0x00, 0x11, 0x11, 0x11, 0x13, 0x0D],
  #v[0x00, 0x00, 0x11, 0x11, 0x11, 0x0A, 0x04],
  #v[0x00, 0x00, 0x11, 0x11, 0x15, 0x15, 0x0A],
  #v[0x00, 0x00, 0x11, 0x0A, 0x04, 0x0A, 0x11],
  #v[0x00, 0x00, 0x11, 0x11, 0x0F, 0x01, 0x0E],
  #v[0x00, 0x00, 0x1F, 0x02, 0x04, 0x08, 0x1F],
  #v[0x02, 0x04, 0x04, 0x08, 0x04, 0x04, 0x02],
  #v[0x04, 0x04, 0x04, 0x04, 0x04, 0x04, 0x04],
  #v[0x08, 0x04, 0x04, 0x02, 0x04, 0x04, 0x08],
  #v[0x00, 0x04, 0x02, 0x1F, 0x02, 0x04, 0x00],
  #v[0x00, 0x04, 0x08, 0x1F, 0x08, 0x04, 0x00]]

/-- The seven zero rows of 40_font R72. -/
def blankGlyph : Glyph := #v[0, 0, 0, 0, 0, 0, 0]

/-- The 96 defined glyphs of REF_FONT, code 0x20 first. PRESUMED (the spec's stand-in, from general knowledge), log entry 4. -/
def refGlyphs : List Glyph :=
  refGlyphs20 ++ refGlyphs30 ++ refGlyphs40 ++ refGlyphs50 ++ refGlyphs60 ++ refGlyphs70

/-- REF_FONT as a function of the code: blank outside 0x20..0x7F (40_font R72, R73). -/
def refGlyph (code : Nat) : Glyph :=
  if 0x20 ≤ code ∧ code ≤ 0x7F then refGlyphs.getD (code - 0x20) blankGlyph else blankGlyph

/-- The table of the values of `f` at 0, 1, ..., n - 1. -/
def tableOf {α : Type} (n : Nat) (f : Nat → α) : Vector α n := ⟨((List.range n).map f).toArray, by simp⟩

/-- Bit replication of a 5-bit field: `(v << 3) | (v >> 2)` (41_color R76). -/
def replicate5 (v : Nat) : Byte := (BitVec.ofNat 8 v <<< 3) ||| (BitVec.ofNat 8 v >>> 2)

/-- Bit replication of a 6-bit field: `(v << 2) | (v >> 4)` (41_color R76). -/
def replicate6 (v : Nat) : Byte := (BitVec.ofNat 8 v <<< 2) ||| (BitVec.ofNat 8 v >>> 4)

/-- Even strips ascend, odd strips descend (45_display R102). -/
def defaultDir : Vector Dir 7 := #v[.asc, .desc, .asc, .desc, .asc, .desc, .asc]

/-- The default slot table (42_glyph R81). -/
def defaultSlotCol : Vector Nat 6 := #v[0, 6, 12, 18, 24, 30]

/-- The default configuration of 00_scope R5. DESIGN CHOICE (the spec's), log entry 5. -/
def defaultConfig : Config where
  font := tableOf 256 refGlyph
  slotCol := defaultSlotCol
  dir := defaultDir
  red := tableOf 32 replicate5
  green := tableOf 64 replicate6
  blue := tableOf 32 replicate5
  payloadHighFirst := true

end Sys2Proof.Machine
end

