-- ==== Sys2Proof/Machine/State.lean ====
section
/-! DEFINITION. The state: the core's complete state (10_state R10), the configuration, the environment's inputs and the
observation; the reasons a step can stop; the reset state (10_state R27). -/

namespace Sys2Proof.Machine

/-- The phase bit (10_state R13). -/
inductive Phase where
  | idle
  | composing
deriving DecidableEq, Repr

/-- What the host does next at the port. -/
inductive HostEvent where
  /-- One transaction, presented after the response to the one before (70_reset R155). -/
  | transaction (t : Transaction)
  /-- Two transactions presented at once (20_memory R44). -/
  | overlapping (t u : Transaction)
  /-- Reset, applied between transactions (70_reset R150). -/
  | reset
  /-- Reset, applied while a transaction is in progress (70_reset R150). -/
  | resetDuring (t : Transaction)
deriving DecidableEq, Repr

/-- What the environment has settled of the transmitter's answer to a coming frame. -/
inductive TxAnswer where
  /-- The reply code: 0 for sent, any other value a failure (45_display R104). -/
  | reply (t : Byte)
  /-- The transmitter never replies (70_reset R158). -/
  | never
deriving DecidableEq, Repr

/-- Why the machine stops. -/
inductive Fault where
  /-- Raised by FLUSH, DISPLAY_SYMBOL and DISPLAY_TEXT when the transmitter never answers the frame: "the core hangs, and
  nothing in the core ends the hang" (70_reset R158; 93 U8: stuck). Safe: the hardware makes no further step either. -/
  | transmitterSilent
deriving DecidableEq, Repr

/-- Why the model gives a step no meaning. -/
inductive Refusal where
  /-- Raised by an arm of `exec` that has no meaning yet; no arm does. Safe. -/
  | notModelled (mnemonic : String)
  /-- Raised by the step when the configuration is not valid: "A model refuses (gives no meaning to) an invalid
  configuration" (00_scope R6, 93 U6). Safe. -/
  | invalidConfiguration
  /-- Raised by the step when two transactions overlap: "A model has no step for them (it refuses)" (20_memory R44, 93 U9).
  Safe. -/
  | overlappingTransactions
  /-- Raised by the step when reset meets a transaction in progress, which "has no defined outcome" (70_reset R150, 93 U10).
  Safe. -/
  | resetDuringTransaction
deriving DecidableEq, Repr

structure State where
  /-- The configuration (00_scope R5), which no step changes (10_state R16). -/
  config : Config
  /-- x[2], FG_COLOR (10_state R23). -/
  fgColor : Word
  /-- x[3], BG_COLOR (10_state R24). -/
  bgColor : Word
  /-- x[4], TEXT0 (10_state R25). -/
  text0 : Word
  /-- x[5], TEXT1 (10_state R25). -/
  text1 : Word
  /-- x[6], TEXT2 (10_state R25). -/
  text2 : Word
  /-- STATUS.CODE (10_state R22). -/
  code : BitVec 4
  /-- STATUS.TX_CODE (10_state R22). -/
  txCode : Byte
  /-- PHASE (10_state R13). -/
  phase : Phase
  /-- FB (10_state R14). -/
  fb : FrameBuffer
  /-- MASK (10_state R15). -/
  mask : MaskGrid
  /-- The model's own: what the host does next, in issue order (00_scope R8, 20_memory R40). -/
  hostQueue : List HostEvent
  /-- The model's own: answers of the transmitter that the environment has settled, the next frame's first; where the list is
  empty the reply is the free value `Config.txReply`. -/
  txReplies : List TxAnswer
  /-- The model's own: how many replies have been taken; a free reply is drawn at this number. -/
  txDraws : Nat
  /-- Observation: the responses returned, oldest first (00_scope R9). -/
  responses : List Word
  /-- Observation: the frames emitted, oldest first (00_scope R9). -/
  frames : List Frame
deriving DecidableEq, Repr

/-- The machine right after reset: 10_state R27 for the core's state; the default configuration (00_scope R5, log entry 3); no
transaction waiting, no reply settled, nothing observed (log entries 1, 7 and 9). -/
def State.reset : State where
  config := defaultConfig
  fgColor := 0
  bgColor := 0
  text0 := 0
  text1 := 0
  text2 := 0
  code := 0
  txCode := 0
  phase := .idle
  fb := Vector.replicate 7 (Vector.replicate 72 Pixel.black)
  mask := Vector.replicate 7 (Vector.replicate 36 false)
  hostQueue := []
  txReplies := []
  txDraws := 0
  responses := []
  frames := []

end Sys2Proof.Machine
end

