-- ==== Sys2Proof/Syntax.lean ====
section
/-! DEFINITION. The instructions: one constructor for each row of spec/opcode_table.json, with the operands that the decoding
procedure 30_encoding R60 returns (ignored bits are dropped there, R56). -/

namespace Sys2Proof

/-- The eight host registers, x[0] to x[7] (10_state R20). -/
inductive HostReg where
  | cmd
  | status
  | fgColor
  | bgColor
  | text0
  | text1
  | text2
  | r7
deriving DecidableEq, Repr

/-- The transactions of 30_encoding R53. `sym` is SYM, an unsigned symbol code; `pos` is POS, 0..15; `data` is WDATA. -/
inductive Instr where
  | rd (reg : HostReg)
  | displaySymbol (sym : Byte) (pos : BitVec 4)
  | displayText
  | paint (sym : Byte) (pos : BitVec 4)
  | fill
  | flush
  | reservedOp0
  | reservedOp6
  | reservedOp7
  | reservedOp8
  | reservedOp9
  | reservedOp10
  | reservedOp11
  | reservedOp12
  | reservedOp13
  | reservedOp14
  | reservedOp15
  | wrStatus (data : Word)
  | wrFgColor (data : Word)
  | wrBgColor (data : Word)
  | wrText0 (data : Word)
  | wrText1 (data : Word)
  | wrText2 (data : Word)
  | wrR7 (data : Word)
deriving DecidableEq, Repr

/-- The commands are the writes to CMD (00_scope R7, glossary): the five operations and the eleven reserved codes. -/
def Instr.isCommand : Instr → Bool
  | .displaySymbol _ _ | .displayText | .paint _ _ | .fill | .flush => true
  | .reservedOp0 | .reservedOp6 | .reservedOp7 | .reservedOp8 | .reservedOp9 | .reservedOp10 => true
  | .reservedOp11 | .reservedOp12 | .reservedOp13 | .reservedOp14 | .reservedOp15 => true
  | .rd _ | .wrStatus _ | .wrFgColor _ | .wrBgColor _ | .wrText0 _ | .wrText1 _ | .wrText2 _ | .wrR7 _ => false

end Sys2Proof
end

