-- ==== Sys2Proof/Machine/Ops.lean ====
section
/-! DEFINITION. The named operations: the counted loop, Frame Buffer, Mask and frame primitives (20_memory R35, R36), the setters,
the register accessors (10_state R20), the response (30_encoding R51), rejection (60_exceptions R134) and reset (70_reset R150). -/

namespace Sys2Proof.Machine

/-- `for i in 0..n-1` of 00_scope R7: the body runs at 0, 1, ..., n - 1 in this order. -/
def forRange {σ : Type} : Nat → (Nat → σ → σ) → σ → σ
  | 0, _, s => s
  | n + 1, body, s => body n (forRange n body s)

/-- `FbWrite(s, c, p)`: a write outside the grid is dropped (20_memory R35). -/
def fbWrite (fb : FrameBuffer) (s c : Nat) (p : Pixel) : FrameBuffer :=
  if h : s < 7 ∧ c < 72 then fb.set s (fb[s].set c p) else fb

/-- `FbRead(s, c)`: it "requires" a cell of the grid (20_memory R35); flush is the one reader and stays inside. Outside the
grid the model reads black, which no instruction can reach (log entry 14). -/
def fbRead (fb : FrameBuffer) (s c : Nat) : Pixel :=
  if h : s < 7 ∧ c < 72 then fb[s][c] else Pixel.black

/-- `MaskWrite(s, c, b)`: a write outside the grid is dropped (20_memory R36). -/
def maskWrite (m : MaskGrid) (s c : Nat) (b : Bool) : MaskGrid :=
  if h : s < 7 ∧ c < 36 then m.set s (m[s].set c b) else m

/-- `MaskRead(s, c)`: false outside the grid, in particular for Frame Buffer columns 36..71 (20_memory R36). -/
def maskRead (m : MaskGrid) (s c : Nat) : Bool :=
  if h : s < 7 ∧ c < 36 then m[s][c] else false

/-- `MaskClear()`: every cell false (20_memory R36). -/
def maskClear : MaskGrid := Vector.replicate 7 (Vector.replicate 36 false)

/-- `OUT[k] <- p` (45_display R106). -/
def frameWrite (out : Frame) (k : Nat) (p : Pixel) : Frame :=
  if h : k < 252 then out.set k p else out

/-- `OUT[k]` (45_display R104); the index of a frame is 0..251. -/
def frameRead (out : Frame) (k : Nat) : Pixel :=
  if h : k < 252 then out[k] else Pixel.black

/-- STATUS.CODE and STATUS.TX_CODE are always written together (10_state R22). -/
def State.setStatus (code : BitVec 4) (txCode : Byte) (s : State) : State := { s with code := code, txCode := txCode }

def State.setPhase (p : Phase) (s : State) : State := { s with phase := p }

def State.setFb (fb : FrameBuffer) (s : State) : State := { s with fb := fb }

def State.setMask (m : MaskGrid) (s : State) : State := { s with mask := m }

/-- The two grids that a paint writes together (42_glyph R83). -/
structure Canvas where
  fb   : FrameBuffer
  mask : MaskGrid
deriving DecidableEq, Repr

def State.canvas (s : State) : Canvas := ⟨s.fb, s.mask⟩

def State.setCanvas (cv : Canvas) (s : State) : State := { s with fb := cv.fb, mask := cv.mask }

/-- The step returns this response (30_encoding R51). -/
def State.respond (w : Word) (s : State) : State := { s with responses := s.responses ++ [w] }

/-- A write of a host register (10_state R20): x[2] to x[6] store the word; STATUS and x[7] ignore it (R22, R26). A write to CMD
executes a command instead (R21) and stores nothing. -/
def State.writeReg (reg : HostReg) (data : Word) (s : State) : State :=
  match reg with
  | .fgColor => { s with fgColor := data }
  | .bgColor => { s with bgColor := data }
  | .text0 => { s with text0 := data }
  | .text1 => { s with text1 := data }
  | .text2 => { s with text2 := data }
  | .cmd | .status | .r7 => s

/-- PHASE as bit 4 of STATUS (10_state R22). -/
def Phase.bit : Phase → BitVec 1
  | .idle => 0
  | .composing => 1

/-- The STATUS register: TX_CODE in 15:8, zeros in 7:5, PHASE in 4, CODE in 3:0 (10_state R22). -/
def State.statusWord (s : State) : Word := s.txCode ++ 0#3 ++ s.phase.bit ++ s.code

/-- A read of a host register: CMD and x[7] read as 0 (10_state R20 to R26). -/
def State.readReg (reg : HostReg) (s : State) : Word :=
  match reg with
  | .cmd => 0
  | .status => s.statusWord
  | .fgColor => s.fgColor
  | .bgColor => s.bgColor
  | .text0 => s.text0
  | .text1 => s.text1
  | .text2 => s.text2
  | .r7 => 0

/-- `RESP <- STATUS`, the end of every command (47_host R123). -/
def State.respondStatus (s : State) : State := s.respond s.statusWord

/-- The status codes (60_exceptions R130). -/
inductive StatusCode where
  | ok
  | errPosition
  | errPhase
  | errOpcode
  | errTx
deriving DecidableEq, Repr

/-- The value of a status code in STATUS.CODE (60_exceptions R130). -/
def StatusCode.bits : StatusCode → BitVec 4
  | .ok => 0
  | .errPosition => 1
  | .errPhase => 2
  | .errOpcode => 3
  | .errTx => 4

/-- TAKING AN EXCEPTION on this hardware, `raise Err(code)`: STATUS.CODE takes the code, STATUS.TX_CODE 0, nothing else changes,
and the response is the new STATUS (60_exceptions R134). There is no handler and no return from one (R134, R138). -/
def raiseErr (e : StatusCode) (s : State) : Host.Outcome State Fault Refusal :=
  .next (s.setStatus e.bits 0).respondStatus

/-- Reset of a machine that has run (70_reset R150): every piece of mutable state takes its reset value, the configuration and
the environment (its queue, its replies, the draws already taken) stay, and the observation starts afresh (R152; log entry 11). -/
def State.applyReset (s : State) : State :=
  { State.reset with config := s.config, hostQueue := s.hostQueue, txReplies := s.txReplies, txDraws := s.txDraws }

end Sys2Proof.Machine
end

