-- ==== Sys2Proof/Machine/HostPort.lean ====
section
/-! DEFINITION. The host port: register reads and writes (47_host R120 to R122). -/

namespace Sys2Proof.Machine

/-- A register write that executes no command; its response is 0x0000 (30_encoding R51). -/
def writeRegister (reg : HostReg) (data : Word) (s : State) : Host.Outcome State Fault Refusal :=
  .next ((s.writeReg reg data).respond 0)

/-- RD (47_host R121). -/
def execRd (reg : HostReg) (s : State) : Host.Outcome State Fault Refusal := .next (s.respond (s.readReg reg))

/-- WR FG_COLOR (47_host R120). -/
def execWrFgColor (data : Word) (s : State) : Host.Outcome State Fault Refusal := writeRegister .fgColor data s

/-- WR BG_COLOR (47_host R120). -/
def execWrBgColor (data : Word) (s : State) : Host.Outcome State Fault Refusal := writeRegister .bgColor data s

/-- WR TEXT0 (47_host R120). -/
def execWrText0 (data : Word) (s : State) : Host.Outcome State Fault Refusal := writeRegister .text0 data s

/-- WR TEXT1 (47_host R120). -/
def execWrText1 (data : Word) (s : State) : Host.Outcome State Fault Refusal := writeRegister .text1 data s

/-- WR TEXT2 (47_host R120). -/
def execWrText2 (data : Word) (s : State) : Host.Outcome State Fault Refusal := writeRegister .text2 data s

/-- WR STATUS: ignored (47_host R122). -/
def execWrStatus (data : Word) (s : State) : Host.Outcome State Fault Refusal := writeRegister .status data s

/-- WR to the reserved address 7: ignored (47_host R122). -/
def execWrR7 (data : Word) (s : State) : Host.Outcome State Fault Refusal := writeRegister .r7 data s

end Sys2Proof.Machine
end

