-- ==== Sys2Proof/Machine/Flags.lean ====
section
/-! DEFINITION. What commands write to STATUS (10_state R22, R28): there are no other flags. -/

namespace Sys2Proof.Machine

/-- `STATUS.CODE <- OK; STATUS.TX_CODE <- 0`, the end of PAINT and FILL (42_glyph R80, 43_fill R90). -/
def State.setOk (s : State) : State := s.setStatus StatusCode.ok.bits 0

/-- `TakeReply(t)` (45_display R105): OK for reply 0, else ERR_TX with the reply unchanged in TX_CODE. -/
def State.takeReply (t : Byte) (s : State) : State :=
  if t = 0 then s.setStatus StatusCode.ok.bits 0 else s.setStatus StatusCode.errTx.bits t

end Sys2Proof.Machine
end

