-- ==== Sys2Proof/Machine/Color.lean ====
section
/-! DEFINITION. The Color Converter (41_color R75 to R78). -/

namespace Sys2Proof.Machine

/-- `r5 <- color[15:11]` (41_color R75). -/
def redField (color : Word) : BitVec 5 := color.extractLsb' 11 5

/-- `g6 <- color[10:5]` (41_color R75). -/
def greenField (color : Word) : BitVec 6 := color.extractLsb' 5 6

/-- `b5 <- color[4:0]` (41_color R75). -/
def blueField (color : Word) : BitVec 5 := color.extractLsb' 0 5

/-- CONVERT(color), `rgb565_to_rgb888`: each channel from its own field (41_color R75). Under the default configuration this is
the bit replication of R76. -/
def convert (c : Config) (color : Word) : Pixel where
  red := c.red[(redField color).toNat]
  green := c.green[(greenField color).toNat]
  blue := c.blue[(blueField color).toNat]

end Sys2Proof.Machine
end

