-- ==== Sys2Proof/Machine/Operands.lean ====
section
/-! DEFINITION. Operand forms: the position (42_glyph R84, R81), the colour registers (41_color R78) and the text payload
(44_text R95). -/

namespace Sys2Proof.Machine

/-- `ValidPos(pos)` (42_glyph R84). -/
def validPos (pos : BitVec 4) : Bool := 1 ≤ pos.toNat ∧ pos.toNat ≤ 6

/-- `SLOT_COL(p)` for a position p in 1..6 (42_glyph R81). PaintGlyph is called with valid positions only; outside them the
table has no entry and the model reads 0, which no instruction can reach (log entry 14). -/
def slotCol (c : Config) (p : Nat) : Nat := c.slotCol.toList.getD (p - 1) 0

/-- The foreground operand, `CONVERT(FG_COLOR)`, taken when the command executes (10_state R23, 41_color R78). -/
def State.foreground (s : State) : Pixel := convert s.config s.fgColor

/-- The background operand, `CONVERT(BG_COLOR)`, taken when the command executes (10_state R24, 41_color R78). -/
def State.background (s : State) : Pixel := convert s.config s.bgColor

/-- The two codes of one payload word, the earlier symbol first (44_text R95). -/
def wordCodes (highFirst : Bool) (w : Word) : List Byte :=
  let high := w.extractLsb' 8 8
  let low := w.extractLsb' 0 8
  if highFirst then [high, low] else [low, high]

/-- `DecodePayload(w0, w1, w2)`: six symbol codes, TEXT0's first (44_text R95). -/
def decodePayload (highFirst : Bool) (w0 w1 w2 : Word) : List Byte :=
  wordCodes highFirst w0 ++ wordCodes highFirst w1 ++ wordCodes highFirst w2

/-- The six codes DISPLAY_TEXT paints (46_render R111). -/
def State.textCodes (s : State) : List Byte := decodePayload s.config.payloadHighFirst s.text0 s.text1 s.text2

end Sys2Proof.Machine
end

