-- ==== Sys2Proof/Machine/Fill.lean ====
section
/-! DEFINITION. The fill and FILL (43_fill R90, R91). -/

namespace Sys2Proof.Machine

/-- One iteration of FillBackground (43_fill R91). -/
def fillCell (m : MaskGrid) (bg : Pixel) (r c : Nat) (fb : FrameBuffer) : FrameBuffer :=
  if maskRead m r c then fb else fbWrite fb r c bg

/-- The loops of FillBackground; the Mask is read and not changed (43_fill R91). -/
@[irreducible] def fillGrid (m : MaskGrid) (bg : Pixel) (fb : FrameBuffer) : FrameBuffer :=
  forRange 7 (fun r => forRange 72 (fun c => fillCell m bg r c)) fb

/-- `FillBackground(bg)` (43_fill R91). -/
def fillBackground (bg : Pixel) (s : State) : State := s.setFb (fillGrid s.mask bg s.fb)

/-- FILL (43_fill R90). -/
def execFill (s : State) : Host.Outcome State Fault Refusal :=
  .next ((fillBackground s.background s).setPhase .idle).setOk.respondStatus

end Sys2Proof.Machine
end

