-- ==== Sys2Proof/Machine/Font.lean ====
section
/-! DEFINITION. The Font Table (40_font R70 to R72). -/

namespace Sys2Proof.Machine

/-- `FontRead(code, r)`: bits 4:0 of stored byte r of the code's bitmap; bits 7:5 are discarded (40_font R71). A row has r in
0..6; no caller asks for another (log entry 14). -/
def fontRead (c : Config) (code : Byte) (r : Nat) : BitVec 5 :=
  if h : r < 7 then (c.font[code.toNat][r]).extractLsb' 0 5 else 0

/-- `ink(code, r, k)`: bit 4 - k of the row, so that k = 0 is the leftmost column (40_font R71). A column has k in 0..4. -/
def ink (c : Config) (code : Byte) (r k : Nat) : Bool := (fontRead c code r).getLsbD (4 - k)

/-- `lookup(code)`: the seven rows of the bitmap (40_font R70). -/
def lookup (c : Config) (code : Byte) : List (BitVec 5) := (List.range 7).map (fontRead c code)

end Sys2Proof.Machine
end

