-- ==== Sys2Proof/Machine/Raster.lean ====
section
/-! DEFINITION. The Glyph Rasterizer and PAINT (42_glyph R80 to R84). -/

namespace Sys2Proof.Machine

/-- One iteration of PaintGlyph: bitmap row r, whose five bits are `row`, at column k of the slot with origin c0
(42_glyph R83). -/
def paintCell (row : BitVec 5) (c0 : Nat) (fg : Pixel) (r k : Nat) (cv : Canvas) : Canvas :=
  if row.getLsbD (4 - k) then
    { fb := fbWrite cv.fb r (c0 + k) fg, mask := maskWrite cv.mask r (c0 + k) true }
  else { cv with mask := maskWrite cv.mask r (c0 + k) false }

/-- The loops of PaintGlyph (42_glyph R83). -/
@[irreducible] def paintCanvas (c : Config) (sym : Byte) (p : Nat) (fg : Pixel) (cv : Canvas) : Canvas :=
  let c0 := slotCol c p
  forRange 7 (fun r => forRange 5 (fun k => paintCell (fontRead c sym r) c0 fg r k)) cv

/-- `PaintGlyph(sym, pos, fg)` (42_glyph R83). -/
def paintGlyph (sym : Byte) (p : Nat) (fg : Pixel) (s : State) : State :=
  s.setCanvas (paintCanvas s.config sym p fg s.canvas)

/-- The start of a render pass at a PAINT: in IDLE the Mask is cleared and COMPOSING entered, in COMPOSING nothing is done
(42_glyph R82). -/
def startPass (s : State) : State :=
  match s.phase with
  | .idle => (s.setMask maskClear).setPhase .composing
  | .composing => s

/-- PAINT (42_glyph R80). -/
def execPaint (sym : Byte) (pos : BitVec 4) (s : State) : Host.Outcome State Fault Refusal :=
  if validPos pos then
    .next (paintGlyph sym pos.toNat s.foreground (startPass s)).setOk.respondStatus
  else raiseErr .errPosition s

end Sys2Proof.Machine
end

