-- ==== Sys2Proof/Machine/Updater.lean ====
section
/-! DEFINITION. The Display Updater: remap, transmitter port, FLUSH (45_display R100 to R107). -/

namespace Sys2Proof.Machine

/-- `DIR(s)` for a strip s in 0..6 (45_display R102); no caller asks for another strip (log entry 14). -/
def dirOf (c : Config) (s : Nat) : Dir := if h : s < 7 then c.dir[s] else .asc

/-- `Phys(s, c)`, the physical LED index of a window cell (45_display R102). -/
def phys (d : Dir) (s c : Nat) : Nat :=
  match d with
  | .asc => 36 * s + c
  | .desc => 36 * s + (35 - c)

/-- The frame of a Frame Buffer: the window cells walked in logical order, each placed at its physical index (45_display R101,
R106). Every element is written (R107), so the black start is never seen. -/
@[irreducible] def frameOf (c : Config) (fb : FrameBuffer) : Frame :=
  forRange 7 (fun s => forRange 36 (fun col out => frameWrite out (phys (dirOf c s) s col) (fbRead fb s col)))
    (Vector.replicate 252 Pixel.black)

/-- The transmitter's answer to the frame emitted next: the settled one, or a free reply (45_display R104; log entries 7, 8). -/
def State.nextAnswer (s : State) : TxAnswer :=
  match s.txReplies with
  | answer :: _ => answer
  | [] => .reply (Config.txReply s.txDraws)

/-- `emit(frame)` (45_display R104): the frame joins the frame sequence and one reply is used up. -/
def State.emit (f : Frame) (s : State) : State :=
  { s with frames := s.frames ++ [f], txReplies := s.txReplies.tail, txDraws := s.txDraws + 1 }

/-- `FlushFrame(t)` and the command's end, `RESP <- STATUS` (45_display R106, R105). With no answer the command never completes
(70_reset R158). -/
def flushFrame (s : State) : Host.Outcome State Fault Refusal :=
  match s.nextAnswer with
  | .reply t => .next ((s.emit (frameOf s.config s.fb)).takeReply t).respondStatus
  | .never => .fault .transmitterSilent

/-- FLUSH (45_display R100, R103). -/
def execFlush (s : State) : Host.Outcome State Fault Refusal :=
  match s.phase with
  | .composing => raiseErr .errPhase s
  | .idle => flushFrame s

end Sys2Proof.Machine
end

