-- ==== Sys2Proof/Machine/Render.lean ====
section
/-! DEFINITION. The text paint loop (44_text R96) and the render entry points DISPLAY_SYMBOL and DISPLAY_TEXT (46_render R110,
R111). -/

namespace Sys2Proof.Machine

/-- PaintGlyph of the codes at positions p, p + 1, ... in order. -/
def composeFrom (c : Config) (fg : Pixel) : Nat → List Byte → Canvas → Canvas
  | _, [], cv => cv
  | p, code :: rest, cv => composeFrom c fg (p + 1) rest (paintCanvas c code p fg cv)

/-- `ComposeText(codes, fg)`: code i at position i, from position 1 (44_text R96). -/
def composeText (codes : List Byte) (fg : Pixel) (s : State) : State :=
  s.setCanvas (composeFrom s.config fg 1 codes s.canvas)

/-- The start of a display command's pass: the Mask is cleared and COMPOSING entered, whatever the phase (46_render R110,
R111; 42_glyph R82). -/
def newPass (s : State) : State := (s.setMask maskClear).setPhase .composing

/-- DISPLAY_SYMBOL (46_render R110). -/
def execDisplaySymbol (sym : Byte) (pos : BitVec 4) (s : State) : Host.Outcome State Fault Refusal :=
  if validPos pos then
    flushFrame ((fillBackground s.background (paintGlyph sym pos.toNat s.foreground (newPass s))).setPhase .idle)
  else raiseErr .errPosition s

/-- DISPLAY_TEXT (46_render R111). -/
def execDisplayText (s : State) : Host.Outcome State Fault Refusal :=
  flushFrame ((fillBackground s.background (composeText s.textCodes s.foreground (newPass s))).setPhase .idle)

end Sys2Proof.Machine
end

