-- ==== Sys2Proof/Machine/Reserved.lean ====
section
/-! DEFINITION. The reserved command words: OP 0 and 6 to 15 (30_encoding R55). -/

namespace Sys2Proof.Machine

/-- A command word with a reserved OP is rejected with ERR_OPCODE (30_encoding R55, 60_exceptions R133). -/
def rejectOpcode (s : State) : Host.Outcome State Fault Refusal := raiseErr .errOpcode s

/-- OP = 0 (30_encoding R55). -/
def execReservedOp0 (s : State) : Host.Outcome State Fault Refusal := rejectOpcode s

/-- OP = 6 (30_encoding R55). -/
def execReservedOp6 (s : State) : Host.Outcome State Fault Refusal := rejectOpcode s

/-- OP = 7 (30_encoding R55). -/
def execReservedOp7 (s : State) : Host.Outcome State Fault Refusal := rejectOpcode s

/-- OP = 8 (30_encoding R55). -/
def execReservedOp8 (s : State) : Host.Outcome State Fault Refusal := rejectOpcode s

/-- OP = 9 (30_encoding R55). -/
def execReservedOp9 (s : State) : Host.Outcome State Fault Refusal := rejectOpcode s

/-- OP = 10 (30_encoding R55). -/
def execReservedOp10 (s : State) : Host.Outcome State Fault Refusal := rejectOpcode s

/-- OP = 11 (30_encoding R55). -/
def execReservedOp11 (s : State) : Host.Outcome State Fault Refusal := rejectOpcode s

/-- OP = 12 (30_encoding R55). -/
def execReservedOp12 (s : State) : Host.Outcome State Fault Refusal := rejectOpcode s

/-- OP = 13 (30_encoding R55). -/
def execReservedOp13 (s : State) : Host.Outcome State Fault Refusal := rejectOpcode s

/-- OP = 14 (30_encoding R55). -/
def execReservedOp14 (s : State) : Host.Outcome State Fault Refusal := rejectOpcode s

/-- OP = 15 (30_encoding R55). -/
def execReservedOp15 (s : State) : Host.Outcome State Fault Refusal := rejectOpcode s

end Sys2Proof.Machine
end

