-- ==== Sys2Proof/Machine/Dispatch.lean ====
section
/-! DEFINITION. The dispatch of an instruction to its meaning (47_host R123). -/

namespace Sys2Proof.Machine

def exec (i : Instr) (s : State) : Host.Outcome State Fault Refusal :=
  match i with
  | .rd reg => Sys2Proof.Machine.execRd reg s
  | .displaySymbol sym pos => Sys2Proof.Machine.execDisplaySymbol sym pos s
  | .displayText => Sys2Proof.Machine.execDisplayText s
  | .paint sym pos => Sys2Proof.Machine.execPaint sym pos s
  | .fill => Sys2Proof.Machine.execFill s
  | .flush => Sys2Proof.Machine.execFlush s
  | .reservedOp0 => Sys2Proof.Machine.execReservedOp0 s
  | .reservedOp6 => Sys2Proof.Machine.execReservedOp6 s
  | .reservedOp7 => Sys2Proof.Machine.execReservedOp7 s
  | .reservedOp8 => Sys2Proof.Machine.execReservedOp8 s
  | .reservedOp9 => Sys2Proof.Machine.execReservedOp9 s
  | .reservedOp10 => Sys2Proof.Machine.execReservedOp10 s
  | .reservedOp11 => Sys2Proof.Machine.execReservedOp11 s
  | .reservedOp12 => Sys2Proof.Machine.execReservedOp12 s
  | .reservedOp13 => Sys2Proof.Machine.execReservedOp13 s
  | .reservedOp14 => Sys2Proof.Machine.execReservedOp14 s
  | .reservedOp15 => Sys2Proof.Machine.execReservedOp15 s
  | .wrStatus data => Sys2Proof.Machine.execWrStatus data s
  | .wrFgColor data => Sys2Proof.Machine.execWrFgColor data s
  | .wrBgColor data => Sys2Proof.Machine.execWrBgColor data s
  | .wrText0 data => Sys2Proof.Machine.execWrText0 data s
  | .wrText1 data => Sys2Proof.Machine.execWrText1 data s
  | .wrText2 data => Sys2Proof.Machine.execWrText2 data s
  | .wrR7 data => Sys2Proof.Machine.execWrR7 data s

end Sys2Proof.Machine
end

