-- ==== Sys2Proof/Machine/Checks.lean ====
section
/-! DEFINITION. The checks: which raw bits are a transaction (30_encoding R50) and the conditions of a valid configuration
(00_scope R6). -/

namespace Sys2Proof

/-- A number is a transaction when it fits the 20 bits of BUS20 (30_encoding R50). -/
def isTransaction (w : Nat) : Bool := w < 2 ^ 20

/-- The glyph has no ink: bits 4:0 of all seven rows are 0 (40_font R71, R72). -/
def Glyph.blank (g : Glyph) : Bool := g.toList.all fun row => row.extractLsb' 0 5 == 0

/-- Condition (a) of 00_scope R6: codes below 0x20 and above 0x7F are blank. -/
def Config.fontBlankOutside (c : Config) : Bool :=
  (c.font.toList.take 0x20 ++ c.font.toList.drop 0x80).all Glyph.blank

/-- Condition (b) of 00_scope R6: every column origin is at most 31. -/
def Config.slotsInside (c : Config) : Bool := c.slotCol.toList.all fun col => col ≤ 31

/-- No entry of the table is greater than the next one (41_color R75 (a)). -/
def rising : List Byte → Bool
  | a :: b :: rest => a.toNat ≤ b.toNat && rising (b :: rest)
  | _ => true

/-- The three properties of 41_color R75 for one channel: monotone, 0 to 0, maximum to 255. -/
def channelOk (table : List Byte) : Bool :=
  rising table && table.head? == some 0 && table.getLast? == some 255

/-- Condition (c) of 00_scope R6: CONVERT meets 41_color R75. -/
def Config.convertOk (c : Config) : Bool :=
  channelOk c.red.toList && channelOk c.green.toList && channelOk c.blue.toList

end Sys2Proof
end

