-- ==== Sys2Proof/WellFormed.lean ====
section
/-! DEFINITION. Which instructions are well formed and which configurations are valid (00_scope R6); the checks themselves stand
in Machine/Checks.lean. -/

namespace Sys2Proof

/-- Every instruction is well formed: its operands have the width of their fields by their types (30_encoding R50: "All 2^20
values of T are accepted; none is illegal at this level"). An invalid position is well formed and is rejected when it executes
(60_exceptions R131). What can be ill formed is raw bits (`isTransaction`) and a configuration (`Config.valid`). -/
def Instr.WellFormed : Instr → Bool
  | .rd _ | .displaySymbol _ _ | .displayText | .paint _ _ | .fill | .flush => true
  | .reservedOp0 | .reservedOp6 | .reservedOp7 | .reservedOp8 | .reservedOp9 | .reservedOp10 => true
  | .reservedOp11 | .reservedOp12 | .reservedOp13 | .reservedOp14 | .reservedOp15 => true
  | .wrStatus _ | .wrFgColor _ | .wrBgColor _ | .wrText0 _ | .wrText1 _ | .wrText2 _ | .wrR7 _ => true

/-- A valid configuration (00_scope R6). -/
def Config.valid (c : Config) : Bool := c.fontBlankOutside && c.slotsInside && c.convertOk

end Sys2Proof
end

