-- ==== Sys2Proof/Decode.lean ====
section
/-! DEFINITION. Decoding (30_encoding R60, total on 20 bits), the opcode map (R53) and the encoder written from the same map. -/

namespace Sys2Proof

/-- Why raw bits are no transaction. -/
inductive DecodeError where
  /-- The number has a bit above bit 19; BUS20 has 20 bits (30_encoding R50). -/
  | widerThanBus20
deriving DecidableEq, Repr

/-- The register at a host address (10_state R20). -/
def HostReg.ofAddr (addr : BitVec 3) : HostReg :=
  match addr.toNat with
  | 0 => .cmd
  | 1 => .status
  | 2 => .fgColor
  | 3 => .bgColor
  | 4 => .text0
  | 5 => .text1
  | 6 => .text2
  | _ => .r7

/-- The host address of a register (10_state R20). -/
def HostReg.addr : HostReg → BitVec 3
  | .cmd => 0
  | .status => 1
  | .fgColor => 2
  | .bgColor => 3
  | .text0 => 4
  | .text1 => 5
  | .text2 => 6
  | .r7 => 7

/-- The command part of 30_encoding R60, over a CMD16 word (R52). -/
def decodeCommand (w : Word) : Instr :=
  let pos := w.extractLsb' 8 4
  let sym := w.extractLsb' 0 8
  match (w.extractLsb' 12 4).toNat with
  | 1 => .displaySymbol sym pos
  | 2 => .displayText
  | 3 => .paint sym pos
  | 4 => .fill
  | 5 => .flush
  | 6 => .reservedOp6
  | 7 => .reservedOp7
  | 8 => .reservedOp8
  | 9 => .reservedOp9
  | 10 => .reservedOp10
  | 11 => .reservedOp11
  | 12 => .reservedOp12
  | 13 => .reservedOp13
  | 14 => .reservedOp14
  | 15 => .reservedOp15
  | _ => .reservedOp0

/-- The decoding procedure of 30_encoding R60. -/
def decode (t : Transaction) : Instr :=
  let data := t.extractLsb' 0 16
  if t.getLsbD 19 then
    match HostReg.ofAddr (t.extractLsb' 16 3) with
    | .cmd => decodeCommand data
    | .status => .wrStatus data
    | .fgColor => .wrFgColor data
    | .bgColor => .wrBgColor data
    | .text0 => .wrText0 data
    | .text1 => .wrText1 data
    | .text2 => .wrText2 data
    | .r7 => .wrR7 data
  else .rd (HostReg.ofAddr (t.extractLsb' 16 3))

/-- Decoding of raw bits: bits beyond the 20 of BUS20 are refused by name (log entry 16). -/
def decodeRaw (w : Nat) : Except DecodeError Instr :=
  if isTransaction w then .ok (decode (BitVec.ofNat 20 w)) else .error .widerThanBus20

/-- What the decoder reads from a row's bits as spec/opcode_table.json numbers them. A transaction is one word of 20 bits, so
the table's numbering is the transaction's own and the width given makes no difference. -/
def decodeTableWord (_nbits w : Nat) : Option Instr :=
  match decodeRaw w with
  | .ok i => some i
  | .error _ => none

/-- A write with a register address and a data word: `1aaa dddd dddd dddd dddd` of 30_encoding R53. -/
def encodeWrite (reg : HostReg) (data : Word) : Transaction := 1#1 ++ reg.addr ++ data

/-- A command word in CMD16 (30_encoding R52). -/
def commandWord (op pos : BitVec 4) (sym : Byte) : Word := op ++ pos ++ sym

/-- A write to CMD (30_encoding R52, R53). -/
def encodeCommand (op pos : BitVec 4) (sym : Byte) : Transaction := encodeWrite .cmd (commandWord op pos sym)

/-- The transaction of an instruction, from the patterns of 30_encoding R53; ignored bits are written as zero (R56). -/
def encode : Instr → Transaction
  | .rd reg => 0#1 ++ reg.addr ++ 0#16
  | .displaySymbol sym pos => encodeCommand 1 pos sym
  | .displayText => encodeCommand 2 0 0
  | .paint sym pos => encodeCommand 3 pos sym
  | .fill => encodeCommand 4 0 0
  | .flush => encodeCommand 5 0 0
  | .reservedOp0 => encodeCommand 0 0 0
  | .reservedOp6 => encodeCommand 6 0 0
  | .reservedOp7 => encodeCommand 7 0 0
  | .reservedOp8 => encodeCommand 8 0 0
  | .reservedOp9 => encodeCommand 9 0 0
  | .reservedOp10 => encodeCommand 10 0 0
  | .reservedOp11 => encodeCommand 11 0 0
  | .reservedOp12 => encodeCommand 12 0 0
  | .reservedOp13 => encodeCommand 13 0 0
  | .reservedOp14 => encodeCommand 14 0 0
  | .reservedOp15 => encodeCommand 15 0 0
  | .wrStatus data => encodeWrite .status data
  | .wrFgColor data => encodeWrite .fgColor data
  | .wrBgColor data => encodeWrite .bgColor data
  | .wrText0 data => encodeWrite .text0 data
  | .wrText1 data => encodeWrite .text1 data
  | .wrText2 data => encodeWrite .text2 data
  | .wrR7 data => encodeWrite .r7 data

/-- The mnemonic of an instruction's row in spec/opcode_table.json. -/
def Instr.mnemonic : Instr → String
  | .rd _ => "RD"
  | .displaySymbol _ _ => "DISPLAY_SYMBOL"
  | .displayText => "DISPLAY_TEXT"
  | .paint _ _ => "PAINT"
  | .fill => "FILL"
  | .flush => "FLUSH"
  | .reservedOp0 => "RESERVED_OP0"
  | .reservedOp6 => "RESERVED_OP6"
  | .reservedOp7 => "RESERVED_OP7"
  | .reservedOp8 => "RESERVED_OP8"
  | .reservedOp9 => "RESERVED_OP9"
  | .reservedOp10 => "RESERVED_OP10"
  | .reservedOp11 => "RESERVED_OP11"
  | .reservedOp12 => "RESERVED_OP12"
  | .reservedOp13 => "RESERVED_OP13"
  | .reservedOp14 => "RESERVED_OP14"
  | .reservedOp15 => "RESERVED_OP15"
  | .wrStatus _ => "WR_STATUS"
  | .wrFgColor _ => "WR_FG_COLOR"
  | .wrBgColor _ => "WR_BG_COLOR"
  | .wrText0 _ => "WR_TEXT0"
  | .wrText1 _ => "WR_TEXT1"
  | .wrText2 _ => "WR_TEXT2"
  | .wrR7 _ => "WR_R7"

/-- The rows of 30_encoding R53, each with its mnemonic, match and mask: `t` selects a row when `t &&& mask = match`. The
decoder does not use them; that the two agree is a statement. -/
def opcodeRows : List (String × Transaction × Transaction) := [
  ("RD", 0x00000, 0x80000),
  ("DISPLAY_SYMBOL", 0x81000, 0xFF000),
  ("DISPLAY_TEXT", 0x82000, 0xFF000),
  ("PAINT", 0x83000, 0xFF000),
  ("FILL", 0x84000, 0xFF000),
  ("FLUSH", 0x85000, 0xFF000),
  ("RESERVED_OP0", 0x80000, 0xFF000),
  ("RESERVED_OP6", 0x86000, 0xFF000),
  ("RESERVED_OP7", 0x87000, 0xFF000),
  ("RESERVED_OP8", 0x88000, 0xFF000),
  ("RESERVED_OP9", 0x89000, 0xFF000),
  ("RESERVED_OP10", 0x8A000, 0xFF000),
  ("RESERVED_OP11", 0x8B000, 0xFF000),
  ("RESERVED_OP12", 0x8C000, 0xFF000),
  ("RESERVED_OP13", 0x8D000, 0xFF000),
  ("RESERVED_OP14", 0x8E000, 0xFF000),
  ("RESERVED_OP15", 0x8F000, 0xFF000),
  ("WR_STATUS", 0x90000, 0xF0000),
  ("WR_FG_COLOR", 0xA0000, 0xF0000),
  ("WR_BG_COLOR", 0xB0000, 0xF0000),
  ("WR_TEXT0", 0xC0000, 0xF0000),
  ("WR_TEXT1", 0xD0000, 0xF0000),
  ("WR_TEXT2", 0xE0000, 0xF0000),
  ("WR_R7", 0xF0000, 0xF0000)]

end Sys2Proof
end

