-- ==== Sys2Proof/Machine/Present.lean ====
section
/-! DEFINITION. What a step finds at the host port (00_scope R8, 20_memory R40, R44, 70_reset R150). There is no instruction
fetch (10_state R12): a transaction is consumed when it is presented. -/

namespace Sys2Proof.Machine

/-- What is presented, with the state after the presentation. -/
inductive Presented where
  /-- No transaction: the core is "waiting for one" (60_exceptions R141 (e); log entry 2). -/
  | waiting
  /-- One transaction, decoded. -/
  | run (i : Instr) (s : State)
  /-- Reset. -/
  | reset (s : State)
  /-- A situation the spec gives no meaning to. -/
  | refuse (r : Refusal)

/-- The host's next event, taken off its queue; an invalid configuration is refused whatever is presented (00_scope R6). -/
def present (s : State) : Presented :=
  if s.config.valid then
    match s.hostQueue with
    | [] => .waiting
    | .transaction t :: rest => .run (decode t) { s with hostQueue := rest }
    | .reset :: rest => .reset { s with hostQueue := rest }
    | .overlapping _ _ :: _ => .refuse .overlappingTransactions
    | .resetDuring _ :: _ => .refuse .resetDuringTransaction
  else .refuse .invalidConfiguration

/-- The event that presents raw bits (the bits of a table row are a transaction, log entry 16). -/
def eventOfWord (w : Nat) : HostEvent := .transaction (BitVec.ofNat 20 w)

end Sys2Proof.Machine
end

