-- ==== Sys2Proof/Machine/Step.lean ====
section
/-! DEFINITION. The step: one host transaction, performed whole (00_scope R8, 20_memory R34). -/

namespace Sys2Proof.Machine

/-- One step. With nothing presented the core waits and its state is unchanged (70_reset R150: reset is "the only event that
changes state without a host transaction"). -/
def step (s : State) : Host.Outcome State Fault Refusal :=
  match present s with
  | .waiting => .next s
  | .run i s' => exec i s'
  | .reset s' => .next s'.applyReset
  | .refuse r => .refused r

/-- `s` with the instruction's bits as the transaction the host presents next (log entry 1). -/
def State.withFetchWord (s : State) (_nbits w : Nat) : State := { s with hostQueue := eventOfWord w :: s.hostQueue }

end Sys2Proof.Machine
end

