-- ==== Sys2Proof/Machine/Assembler.lean ====
section
/-! DEFINITION. The assembler syntax and the pseudo-instructions (30_encoding R58, R59), as data: a line and its transaction. The
annotation `; tx=<n>` of a line is an entry of `txReplies`. -/

namespace Sys2Proof.Machine

/-- One line of a host program (30_encoding R58). -/
inductive AsmLine where
  | wr (reg : HostReg) (imm : Word)
  | rd (reg : HostReg)
  | dsym (sym : Byte) (pos : BitVec 4)
  | dtxt
  | paint (sym : Byte) (pos : BitVec 4)
  | fill
  | flush
deriving DecidableEq, Repr

/-- The address of a register as a number that a sum can shift. -/
def addrBits (reg : HostReg) : Transaction := reg.addr.setWidth 20

/-- The transaction of a line, by the sums of 30_encoding R58. -/
def AsmLine.assemble : AsmLine → Transaction
  | .wr reg imm => 0x80000 + (addrBits reg <<< 16) + imm.setWidth 20
  | .rd reg => addrBits reg <<< 16
  | .dsym sym pos => 0x81000 + (pos.setWidth 20 <<< 8) + sym.setWidth 20
  | .dtxt => 0x82000
  | .paint sym pos => 0x83000 + (pos.setWidth 20 <<< 8) + sym.setWidth 20
  | .fill => 0x84000
  | .flush => 0x85000

/-- `(c1 << 8) + c2`: a payload word, the high byte the earlier symbol (30_encoding R59, 44_text R95). -/
def payloadWord (c1 c2 : Byte) : Word := (c1.setWidth 16 <<< 8) + c2.setWidth 16

/-- SETCOLORS (30_encoding R59). -/
def setColors (fg bg : Word) : List AsmLine := [.wr .fgColor fg, .wr .bgColor bg]

/-- SETTEXT, six characters (30_encoding R59). -/
def setText (c1 c2 c3 c4 c5 c6 : Byte) : List AsmLine :=
  [.wr .text0 (payloadWord c1 c2), .wr .text1 (payloadWord c3 c4), .wr .text2 (payloadWord c5 c6)]

/-- SHOWTEXT (30_encoding R59). -/
def showText (c1 c2 c3 c4 c5 c6 : Byte) (fg bg : Word) : List AsmLine :=
  setColors fg bg ++ setText c1 c2 c3 c4 c5 c6 ++ [.dtxt]

/-- SHOWSYM (30_encoding R59). -/
def showSym (sym : Byte) (pos : BitVec 4) (fg bg : Word) : List AsmLine := setColors fg bg ++ [.dsym sym pos]

/-- BLANK (30_encoding R59). -/
def blankScreen (bg : Word) : List AsmLine :=
  [.wr .bgColor bg, .wr .text0 0, .wr .text1 0, .wr .text2 0, .dtxt]

/-- The host goes on to present these lines, after what it already has to present. -/
def State.withLines (lines : List AsmLine) (s : State) : State :=
  { s with hostQueue := s.hostQueue ++ lines.map fun l => .transaction l.assemble }

end Sys2Proof.Machine
end

