-- ==== Sys2Proof/Safety.lean ====
section
/-! DEFINITION. What counts as a safe state and a safe emission, and a sequence of instructions, in the terms the statements
use. -/

namespace Sys2Proof.Machine

/-- STATUS holds a code the core can produce, and TX_CODE is not 0 exactly under ERR_TX (10_state R22, 60_exceptions R130). -/
def State.StatusLegal (s : State) : Prop := s.code.toNat ≤ 4 ∧ (s.txCode ≠ 0 ↔ s.code = 4)

/-- In IDLE every cell that is no ink of the last pass holds one background Pixel (10_state R17). -/
def State.BackgroundUniform (s : State) : Prop :=
  s.phase = .idle → ∃ bg : Pixel, ∀ r c, r < 7 → c < 72 → maskRead s.mask r c = false → fbRead s.fb r c = bg

/-- Column `c` is one of the five columns of position `p` (42_glyph R81). -/
def Config.covers (cfg : Config) (p c : Nat) : Prop := slotCol cfg p ≤ c ∧ c ≤ slotCol cfg p + 4

/-- Every Mask-true cell lies in one of the six slots (42_glyph R83). -/
def State.MaskInSlots (s : State) : Prop :=
  ∀ r c, r < 7 → c < 36 → maskRead s.mask r c = true → ∃ p, 1 ≤ p ∧ p ≤ 6 ∧ Config.covers s.config p c

/-- "Transmission must never observe a partially-painted buffer" (45_display R103, 20_memory R40 (e)): a step emits no frame, or
it emits the window of the Frame Buffer it leaves, and it leaves the phase IDLE. -/
def StableEmission (s s' : State) : Prop :=
  s'.frames = s.frames ∨ (s'.phase = .idle ∧ s'.frames = s.frames ++ [frameOf s'.config s'.fb])

/-- The two states differ in Frame Buffer columns 36..71 at most, which nothing shows (10_state R29 (b), 45_display R101). -/
def VisiblyEqual (s t : State) : Prop :=
  t = { s with fb := t.fb } ∧ ∀ r c, r < 7 → c < 36 → fbRead t.fb r c = fbRead s.fb r c

/-- Several instructions in issue order (20_memory R40). -/
def execAll : List Instr → State → Host.Outcome State Fault Refusal
  | [], s => .next s
  | i :: rest, s =>
    match exec i s with
    | .next s' => execAll rest s'
    | .fault r => .fault r
    | .refused r => .refused r

end Sys2Proof.Machine
end

