-- ==== Sys2Proof/Certificates/Slice0/Obligations.lean ====
section
/-! DEFINITION. The statements about this model, each from the rules of spec/ that its docstring names. A reply `a` of the
transmitter is always any byte: no statement rests on the free value `Config.txReply`. -/

open Sys2Proof Sys2Proof.Machine

/-! ### Encoding (30_encoding) -/

/-- 30_encoding R53, R60: the decoder reads back every instruction the encoder writes, with every operand. -/
def Obligations.DecodeInvertsEncode : Prop :=
  ∀ i : Instr, i.WellFormed = true → decode (encode i) = i

/-- 30_encoding R53, R56: encoding what was decoded gives the transaction back but for its ignored bits, which become zero: bits
15:0 of a read; bits 11:0 of a command other than DISPLAY_SYMBOL and PAINT. -/
def Obligations.EncodeInvertsDecodeUpToIgnoredBits : Prop :=
  ∀ t : Transaction, encode (decode t) =
    if t.getLsbD 19 = false then t &&& 0xF0000
    else if t.extractLsb' 16 3 ≠ 0 then t
    else if t.extractLsb' 12 4 = 1 ∨ t.extractLsb' 12 4 = 3 then t
    else t &&& 0xFF000

/-- 30_encoding R53: every 20-bit value selects exactly one row of the opcode map, and it is the row of the instruction that
the decoder reads. -/
def Obligations.EveryTransactionSelectsItsOneRow : Prop :=
  ∀ t : Transaction, (opcodeRows.filter fun row => t &&& row.2.2 == row.2.1).map (·.1) = [(decode t).mnemonic]

/-- 30_encoding R56: ignored bits make no difference. -/
def Obligations.IgnoredBitsMakeNoDifference : Prop :=
  (∀ x : BitVec 12, decode (0x82#8 ++ x) = .displayText ∧ decode (0x84#8 ++ x) = .fill ∧ decode (0x85#8 ++ x) = .flush) ∧
  (∀ (a : BitVec 3) (x y : Word), decode (0#1 ++ a ++ x) = decode (0#1 ++ a ++ y)) ∧
  (∀ (x y : Word) (s : State),
    exec (decode (0x9#4 ++ x)) s = exec (decode (0x9#4 ++ y)) s ∧ exec (decode (0xF#4 ++ x)) s = exec (decode (0xF#4 ++ y)) s)

/-- 95_test_vectors B7: words written out from the formats of 30_encoding R50, R52. -/
def Obligations.WordsOfTheSpecDecode : Prop :=
  decode 0x81141 = .displaySymbol 0x41 1 ∧ decode 0x81F00 = .displaySymbol 0x00 15 ∧ decode 0x82ABC = .displayText ∧
  decode 0x8364C = .paint 0x4C 6 ∧ decode 0x84000 = .fill ∧ decode 0x85000 = .flush ∧ decode 0x80000 = .reservedOp0 ∧
  decode 0x8F123 = .reservedOp15 ∧ decode 0xAF800 = .wrFgColor 0xF800 ∧ decode 0xB0010 = .wrBgColor 0x0010 ∧
  decode 0xD4C4C = .wrText1 0x4C4C ∧ decode 0x9FFFF = .wrStatus 0xFFFF ∧ decode 0xF1234 = .wrR7 0x1234 ∧
  decode 0x1BEEF = .rd .status ∧ decode 0x00000 = .rd .cmd

/-- 30_encoding R58: the sums that the assembler lines stand for are the encodings of the instructions, and the lines with a name
of their own are `WR CMD` under another name. -/
def Obligations.AssemblerLinesAreTheEncodings : Prop :=
  (∀ sym pos, (AsmLine.dsym sym pos).assemble = encode (.displaySymbol sym pos) ∧
    (AsmLine.paint sym pos).assemble = encode (.paint sym pos) ∧
    (AsmLine.wr .cmd (commandWord 1 pos sym)).assemble = (AsmLine.dsym sym pos).assemble ∧
    (AsmLine.wr .cmd (commandWord 3 pos sym)).assemble = (AsmLine.paint sym pos).assemble) ∧
  AsmLine.dtxt.assemble = encode .displayText ∧ AsmLine.fill.assemble = encode .fill ∧
  AsmLine.flush.assemble = encode .flush ∧
  (AsmLine.wr .cmd 0x2000).assemble = AsmLine.dtxt.assemble ∧ (AsmLine.wr .cmd 0x4000).assemble = AsmLine.fill.assemble ∧
  (AsmLine.wr .cmd 0x5000).assemble = AsmLine.flush.assemble ∧
  (∀ reg, (AsmLine.rd reg).assemble = encode (.rd reg)) ∧
  (∀ imm, (AsmLine.wr .status imm).assemble = encode (.wrStatus imm) ∧
    (AsmLine.wr .fgColor imm).assemble = encode (.wrFgColor imm) ∧
    (AsmLine.wr .bgColor imm).assemble = encode (.wrBgColor imm) ∧
    (AsmLine.wr .text0 imm).assemble = encode (.wrText0 imm) ∧ (AsmLine.wr .text1 imm).assemble = encode (.wrText1 imm) ∧
    (AsmLine.wr .text2 imm).assemble = encode (.wrText2 imm) ∧ (AsmLine.wr .r7 imm).assemble = encode (.wrR7 imm))

/-! ### The step (00_scope R8, 20_memory R34, R40) -/

/-- 00_scope R8, 20_memory R34: a step performs the transaction the host presents, whole. -/
def Obligations.StepRunsThePresentedTransaction : Prop :=
  ∀ (s : State) (t : Transaction) (rest : List HostEvent), s.config.valid = true → s.hostQueue = .transaction t :: rest →
    step s = exec (decode t) { s with hostQueue := rest }

/-- The model's reading of 60_exceptions R141 (e) and 70_reset R150 (log entry 2): with nothing presented the core waits. -/
def Obligations.StepWaitsWhenNothingIsPresented : Prop :=
  ∀ s : State, s.config.valid = true → s.hostQueue = [] → step s = .next s

/-- 20_memory R44: two transactions presented at once have no meaning. -/
def Obligations.OverlappingTransactionsAreRefused : Prop :=
  ∀ (s : State) (t u : Transaction) (rest : List HostEvent), s.config.valid = true →
    s.hostQueue = .overlapping t u :: rest → step s = .refused .overlappingTransactions

/-- 00_scope R6: a configuration is valid exactly when FONT is blank outside 0x20..0x7F, every SLOT_COL is at most 31 and CONVERT
has the three properties of 41_color R75; an invalid one is refused, whatever the host presents. -/
def Obligations.InvalidConfigurationIsRefused : Prop :=
  (∀ c : Config, c.valid = true ↔
    (∀ code : Byte, code.toNat < 0x20 ∨ 0x7F < code.toNat → ∀ r, r < 7 → fontRead c code r = 0) ∧
    (∀ p, 1 ≤ p → p ≤ 6 → slotCol c p ≤ 31) ∧
    ((∀ x y : Word, x.extractLsb' 11 5 ≤ y.extractLsb' 11 5 → (convert c x).red ≤ (convert c y).red) ∧
      (∀ x y : Word, x.extractLsb' 5 6 ≤ y.extractLsb' 5 6 → (convert c x).green ≤ (convert c y).green) ∧
      (∀ x y : Word, x.extractLsb' 0 5 ≤ y.extractLsb' 0 5 → (convert c x).blue ≤ (convert c y).blue) ∧
      convert c 0x0000 = ⟨0, 0, 0⟩ ∧ convert c 0xFFFF = ⟨255, 255, 255⟩)) ∧
  (∀ s : State, s.config.valid = false → step s = .refused .invalidConfiguration)

/-! ### Reset (10_state R27, 70_reset R150) -/

/-- 10_state R27: the values after reset. -/
def Obligations.ResetLeavesTheValuesOfTheSpec : Prop :=
  State.reset.fgColor = 0 ∧ State.reset.bgColor = 0 ∧ State.reset.text0 = 0 ∧ State.reset.text1 = 0 ∧
  State.reset.text2 = 0 ∧ State.reset.code = 0 ∧ State.reset.phase = .idle ∧ State.reset.txCode = 0 ∧
  State.reset.statusWord = 0x0000 ∧
  (∀ r c, r < 7 → c < 72 → fbRead State.reset.fb r c = ⟨0, 0, 0⟩) ∧
  (∀ r c, r < 7 → c < 36 → maskRead State.reset.mask r c = false) ∧ State.reset.frames = []

/-- 70_reset R150, R151, R152: reset applied between transactions puts the mutable state at the values of 10_state R27, leaves
the configuration tables, and emits no frame; that it starts the observation afresh and keeps the environment's fields is the
model's choice (log entry 11). Reset during a transaction is refused. -/
def Obligations.ResetRestoresTheCore : Prop :=
  (∀ (s : State) (rest : List HostEvent), s.config.valid = true → s.hostQueue = .reset :: rest →
    step s = .next { State.reset with
      config := s.config, hostQueue := rest, txReplies := s.txReplies, txDraws := s.txDraws }) ∧
  (∀ (s : State) (t : Transaction) (rest : List HostEvent), s.config.valid = true → s.hostQueue = .resetDuring t :: rest →
    step s = .refused .resetDuringTransaction)

/-! ### The host port (47_host) -/

/-- 47_host R121: a read answers the register and changes nothing else. -/
def Obligations.ReadAnswersTheRegister : Prop :=
  ∀ (s : State) (reg : HostReg),
    decode (reg.addr.setWidth 20 <<< 16) = .rd reg ∧
    exec (.rd reg) s = .next { s with responses := s.responses ++ [
      match reg with
      | .cmd => 0x0000
      | .status => s.txCode ++ 0b000#3 ++ (if s.phase = .composing then 1#1 else 0#1) ++ s.code
      | .fgColor => s.fgColor
      | .bgColor => s.bgColor
      | .text0 => s.text0
      | .text1 => s.text1
      | .text2 => s.text2
      | .r7 => 0x0000] }

/-- 47_host R120: a write to x[2] to x[6] stores the word, answers 0x0000 and changes nothing else. -/
def Obligations.WriteStoresTheRegister : Prop :=
  ∀ (d : Word) (s : State),
    (decode (0x80000 + (2 <<< 16) + d.setWidth 20) = .wrFgColor d ∧
      decode (0x80000 + (3 <<< 16) + d.setWidth 20) = .wrBgColor d ∧
      decode (0x80000 + (4 <<< 16) + d.setWidth 20) = .wrText0 d ∧
      decode (0x80000 + (5 <<< 16) + d.setWidth 20) = .wrText1 d ∧
      decode (0x80000 + (6 <<< 16) + d.setWidth 20) = .wrText2 d) ∧
    exec (.wrFgColor d) s = .next { s with fgColor := d, responses := s.responses ++ [0x0000] } ∧
    exec (.wrBgColor d) s = .next { s with bgColor := d, responses := s.responses ++ [0x0000] } ∧
    exec (.wrText0 d) s = .next { s with text0 := d, responses := s.responses ++ [0x0000] } ∧
    exec (.wrText1 d) s = .next { s with text1 := d, responses := s.responses ++ [0x0000] } ∧
    exec (.wrText2 d) s = .next { s with text2 := d, responses := s.responses ++ [0x0000] }

/-- 47_host R122: a write to STATUS or to address 7 changes nothing and answers 0x0000. -/
def Obligations.WriteToStatusOrAddressSevenIsIgnored : Prop :=
  ∀ (d : Word) (s : State),
    (decode (0x90000 + d.setWidth 20) = .wrStatus d ∧ decode (0xF0000 + d.setWidth 20) = .wrR7 d) ∧
    exec (.wrStatus d) s = .next { s with responses := s.responses ++ [0x0000] } ∧
    exec (.wrR7 d) s = .next { s with responses := s.responses ++ [0x0000] }

/-- 10_state R25, 47_host R121 (c): an operand register is changed by its own write and by no other instruction. -/
def Obligations.OperandRegistersKeepTheirLastWrite : Prop :=
  ∀ (i : Instr) (s s' : State), exec i s = .next s' →
    ((∀ d, i ≠ .wrFgColor d) → s'.fgColor = s.fgColor) ∧ ((∀ d, i ≠ .wrBgColor d) → s'.bgColor = s.bgColor) ∧
    ((∀ d, i ≠ .wrText0 d) → s'.text0 = s.text0) ∧ ((∀ d, i ≠ .wrText1 d) → s'.text1 = s.text1) ∧
    ((∀ d, i ≠ .wrText2 d) → s'.text2 = s.text2)

/-- 10_state R28: CODE and TX_CODE are written by every command and by nothing else, and no command reads them. -/
def Obligations.StatusIsWrittenByCommandsAloneAndReadByNone : Prop :=
  (∀ (i : Instr) (s s' : State), i.isCommand = false → exec i s = .next s' → s'.code = s.code ∧ s'.txCode = s.txCode) ∧
  (∀ (i : Instr) (s : State) (code : BitVec 4) (txCode : Byte), i.isCommand = true →
    exec i { s with code := code, txCode := txCode } = exec i s)

/-- 30_encoding R51: every transaction returns one response: the register for a read, STATUS after the command for a write to
CMD, 0x0000 for any other write. -/
def Obligations.EveryTransactionReturnsOneResponse : Prop :=
  ∀ (i : Instr) (s s' : State), exec i s = .next s' →
    s'.responses = s.responses ++ [
      if i.isCommand then s'.statusWord
      else match i with
        | .rd reg => s.readReg reg
        | _ => 0x0000]

/-! ### Errors (60_exceptions) -/

/-- 60_exceptions R131: ERR_POSITION. -/
def Obligations.InvalidPositionIsRejected : Prop :=
  (∀ (sym : Byte) (pos : BitVec 4) (s : State), pos.toNat = 0 ∨ 7 ≤ pos.toNat →
    exec (.paint sym pos) s = .next { s with
      code := 1, txCode := 0,
      responses := s.responses ++ [0#8 ++ 0#3 ++ (if s.phase = .composing then 1#1 else 0#1) ++ 1#4] } ∧
    exec (.displaySymbol sym pos) s = exec (.paint sym pos) s) ∧
  (∀ (i : Instr) (s s' : State), i.isCommand = true → exec i s = .next s' → s'.code = 1 →
    ∃ sym pos, (i = .paint sym pos ∨ i = .displaySymbol sym pos) ∧ (pos.toNat = 0 ∨ 7 ≤ pos.toNat))

/-- 60_exceptions R132: ERR_PHASE. -/
def Obligations.FlushWhileComposingIsRejected : Prop :=
  (∀ s : State, s.phase = .composing → exec .flush s = .next { s with
    code := 2, txCode := 0, responses := s.responses ++ [0x0012] }) ∧
  (∀ (i : Instr) (s s' : State), i.isCommand = true → exec i s = .next s' → s'.code = 2 →
    i = .flush ∧ s.phase = .composing) ∧
  (∀ s : State, ∃ t, exec .fill s = .next t ∧ t.phase = .idle)

/-- 60_exceptions R133, 30_encoding R55: ERR_OPCODE, for OP 0 and 6 to 15 with any other bits of the command word. -/
def Obligations.ReservedOpcodeIsRejected : Prop :=
  ∀ (op : BitVec 4) (x : BitVec 12) (s : State), op = 0 ∨ 6 ≤ op.toNat →
    exec (decode (0x8#4 ++ op ++ x)) s = .next { s with
      code := 3, txCode := 0,
      responses := s.responses ++ [0#8 ++ 0#3 ++ (if s.phase = .composing then 1#1 else 0#1) ++ 3#4] }

/-- 60_exceptions R133: each of the eleven reserved instructions completes with ERR_OPCODE and nothing else. -/
def Obligations.ReservedInstructionsChangeOnlyStatus : Prop :=
  ∀ (s : State) (i : Instr), i ∈ ([.reservedOp0, .reservedOp6, .reservedOp7, .reservedOp8, .reservedOp9, .reservedOp10,
    .reservedOp11, .reservedOp12, .reservedOp13, .reservedOp14, .reservedOp15] : List Instr) →
    exec i s = .next { s with
      code := 3, txCode := 0,
      responses := s.responses ++ [0#8 ++ 0#3 ++ (if s.phase = .composing then 1#1 else 0#1) ++ 3#4] }

/-- 60_exceptions R134: whatever command is rejected (codes 1 to 3), it changes STATUS and answers it, and nothing else. -/
def Obligations.RejectionChangesOnlyStatus : Prop :=
  ∀ (i : Instr) (s s' : State), i.isCommand = true → exec i s = .next s' → 1 ≤ s'.code.toNat → s'.code.toNat ≤ 3 →
    s' = { s with code := s'.code, txCode := 0, responses := s.responses ++ [s'.statusWord] }

/-- 10_state R22, 60_exceptions R130: codes 5 to 15 are never produced and TX_CODE is not 0 exactly under ERR_TX, whatever the
host does. -/
def Obligations.EveryStepKeepsTheStatusLegal : Prop :=
  ∀ s s' : State, s.StatusLegal → step s = .next s' → s'.StatusLegal

/-! ### PAINT (42_glyph) -/

/-- 42_glyph R80, R82, R83: a PAINT at a valid position. The ink cells of its slot take the converted foreground, the 35 Mask
cells of the slot hold the bitmap, the rest of the Mask is cleared when the pass starts, and nothing else changes. -/
def Obligations.PaintWritesItsSlot : Prop :=
  ∀ (sym : Byte) (pos : BitVec 4) (s : State), 1 ≤ pos.toNat → pos.toNat ≤ 6 →
    ∃ t, exec (.paint sym pos) s = .next t ∧
      t = { s with
        code := 0, txCode := 0, phase := .composing, fb := t.fb, mask := t.mask, responses := s.responses ++ [0x0010] } ∧
      (∀ r c, r < 7 → c < 72 → fbRead t.fb r c =
        if slotCol s.config pos.toNat ≤ c ∧ c ≤ slotCol s.config pos.toNat + 4 ∧
            ink s.config sym r (c - slotCol s.config pos.toNat) = true
        then convert s.config s.fgColor else fbRead s.fb r c) ∧
      (∀ r c, r < 7 → c < 36 → maskRead t.mask r c =
        if slotCol s.config pos.toNat ≤ c ∧ c ≤ slotCol s.config pos.toNat + 4
        then ink s.config sym r (c - slotCol s.config pos.toNat)
        else if s.phase = .idle then false else maskRead s.mask r c)

/-- 40_font R72: under a valid configuration a code outside 0x20..0x7F has the blank bitmap; painting it is no error, changes no
Frame Buffer cell and makes the 35 Mask cells of its slot false. -/
def Obligations.UndefinedCodePaintsBlank : Prop :=
  ∀ (sym : Byte) (s : State), s.config.valid = true → sym.toNat < 0x20 ∨ 0x7F < sym.toNat →
    lookup s.config sym = [0, 0, 0, 0, 0, 0, 0] ∧
    ∀ pos : BitVec 4, 1 ≤ pos.toNat → pos.toNat ≤ 6 →
      ∃ t, exec (.paint sym pos) s = .next t ∧ t.code = 0 ∧ t.fb = s.fb ∧
        ∀ r c, r < 7 → Config.covers s.config pos.toNat c → maskRead t.mask r c = false

/-! ### FILL (43_fill) -/

/-- 43_fill R90, R91: FILL. The Mask-false cells of columns 0..35 and all cells of columns 36..71 take the converted background,
Mask-true cells keep their Pixel, the phase is IDLE, and nothing else changes. -/
def Obligations.FillWritesEveryMaskFalseCell : Prop :=
  ∀ s : State, ∃ t, exec .fill s = .next t ∧
    t = { s with code := 0, txCode := 0, phase := .idle, fb := t.fb, responses := s.responses ++ [0x0000] } ∧
    ∀ r c, r < 7 → c < 72 → fbRead t.fb r c =
      if c ≤ 35 ∧ maskRead s.mask r c = true then fbRead s.fb r c else convert s.config s.bgColor

/-- 43_fill R90 corner case (a): a second FILL with BG_COLOR unchanged changes neither grid. -/
def Obligations.RepeatedFillIsIdempotent : Prop :=
  ∀ s t u : State, exec .fill s = .next t → exec .fill t = .next u → u.fb = t.fb ∧ u.mask = t.mask

/-- 43_fill R93: after a PAINT and a FILL, every Mask-true cell (of the slot, and from IDLE every one) holds the foreground and
every Mask-false cell of the Frame Buffer the background. -/
def Obligations.PaintThenFillSeparatesInkFromBackground : Prop :=
  ∀ (sym : Byte) (pos : BitVec 4) (s t : State), 1 ≤ pos.toNat → pos.toNat ≤ 6 →
    execAll [.paint sym pos, .fill] s = .next t →
    ∀ r c, r < 7 → c < 72 →
      (maskRead t.mask r c = false → fbRead t.fb r c = convert s.config s.bgColor) ∧
      (maskRead t.mask r c = true → s.phase = .idle ∨ Config.covers s.config pos.toNat c →
        fbRead t.fb r c = convert s.config s.fgColor)

/-! ### FLUSH and the remap (45_display) -/

/-- 45_display R100, R101, R104, R105, R106: a FLUSH in IDLE hands over one frame whose element at the physical index of each
window cell is that cell, takes the reply, and changes nothing else. -/
def Obligations.FlushEmitsTheWindow : Prop :=
  ∀ (s : State) (a : Byte), s.phase = .idle → s.nextAnswer = .reply a →
    exec .flush s = .next { s with
      code := if a = 0 then 0 else 4, txCode := a, txReplies := s.txReplies.tail, txDraws := s.txDraws + 1,
      frames := s.frames ++ [frameOf s.config s.fb],
      responses := s.responses ++ [a ++ 0#3 ++ 0#1 ++ (if a = 0 then 0#4 else 4#4)] } ∧
    ∀ r c, r < 7 → c < 36 → frameRead (frameOf s.config s.fb)
      (match dirOf s.config r with | .asc => 36 * r + c | .desc => 36 * r + (35 - c)) = fbRead s.fb r c

/-- 70_reset R158: a command that must emit a frame never completes when the transmitter never replies. -/
def Obligations.SilentTransmitterHangsTheCore : Prop :=
  ∀ s : State, s.nextAnswer = .never →
    (s.phase = .idle → exec .flush s = .fault .transmitterSilent) ∧ exec .displayText s = .fault .transmitterSilent ∧
    ∀ (sym : Byte) (pos : BitVec 4), 1 ≤ pos.toNat → pos.toNat ≤ 6 →
      exec (.displaySymbol sym pos) s = .fault .transmitterSilent

/-- 45_display R107: for every direction table Phys is a bijection from the window cells onto 0..251, with the inverse that the
rule gives. -/
def Obligations.PhysicalIndexIsABijection : Prop :=
  ∀ cfg : Config,
    (∀ r c, r < 7 → c < 36 → phys (dirOf cfg r) r c < 252) ∧
    ∀ k, k < 252 → ∃ r c, r < 7 ∧ c < 36 ∧ phys (dirOf cfg r) r c = k ∧
      r = k / 36 ∧ c = (match dirOf cfg r with | .asc => k % 36 | .desc => 35 - k % 36) ∧
      ∀ r' c', r' < 7 → c' < 36 → phys (dirOf cfg r') r' c' = k → r' = r ∧ c' = c

/-! ### The render entry points (46_render) -/

/-- 46_render R110: DISPLAY_SYMBOL at a valid position. Ink cells of the slot take the foreground and all other cells the
background, the Mask marks the ink, one frame of the new window is emitted, the phase is IDLE, and nothing else changes. -/
def Obligations.DisplaySymbolShowsOneGlyph : Prop :=
  ∀ (sym : Byte) (pos : BitVec 4) (s : State) (a : Byte), 1 ≤ pos.toNat → pos.toNat ≤ 6 → s.nextAnswer = .reply a →
    ∃ t, exec (.displaySymbol sym pos) s = .next t ∧
      t = { s with
        code := if a = 0 then 0 else 4, txCode := a, phase := .idle, fb := t.fb, mask := t.mask,
        txReplies := s.txReplies.tail, txDraws := s.txDraws + 1, frames := s.frames ++ [frameOf s.config t.fb],
        responses := s.responses ++ [a ++ 0#3 ++ 0#1 ++ (if a = 0 then 0#4 else 4#4)] } ∧
      (∀ r c, r < 7 → c < 36 → (maskRead t.mask r c = true ↔
        Config.covers s.config pos.toNat c ∧ ink s.config sym r (c - slotCol s.config pos.toNat) = true)) ∧
      (∀ r c, r < 7 → c < 72 → fbRead t.fb r c =
        if maskRead t.mask r c = true then convert s.config s.fgColor else convert s.config s.bgColor)

/-- 46_render R111, 44_text R96: DISPLAY_TEXT. Code i is shown at position i; where slots overlap the later position counts; every
other cell is background; one frame of the new window is emitted, the phase is IDLE, and nothing else changes. -/
def Obligations.DisplayTextShowsSixGlyphs : Prop :=
  ∀ (s : State) (a : Byte), s.nextAnswer = .reply a →
    ∃ t, exec .displayText s = .next t ∧
      t = { s with
        code := if a = 0 then 0 else 4, txCode := a, phase := .idle, fb := t.fb, mask := t.mask,
        txReplies := s.txReplies.tail, txDraws := s.txDraws + 1, frames := s.frames ++ [frameOf s.config t.fb],
        responses := s.responses ++ [a ++ 0#3 ++ 0#1 ++ (if a = 0 then 0#4 else 4#4)] } ∧
      (∀ r c, r < 7 → c < 36 → (maskRead t.mask r c = true ↔
        ∃ p, 1 ≤ p ∧ p ≤ 6 ∧ Config.covers s.config p c ∧
          ink s.config
            ((decodePayload s.config.payloadHighFirst s.text0 s.text1 s.text2).getD (p - 1) 0) r
            (c - slotCol s.config p) = true ∧
          ∀ q, p < q → q ≤ 6 → ¬ Config.covers s.config q c)) ∧
      (∀ r c, r < 7 → c < 72 → fbRead t.fb r c =
        if maskRead t.mask r c = true then convert s.config s.fgColor else convert s.config s.bgColor)

/-- 46_render R110 (a), R111 (a): what a display command leaves does not depend on the earlier Frame Buffer, Mask or phase. -/
def Obligations.DisplayForgetsTheOldPicture : Prop :=
  ∀ (s : State) (fb : FrameBuffer) (mask : MaskGrid) (phase : Phase),
    exec .displayText { s with fb := fb, mask := mask, phase := phase } = exec .displayText s ∧
    ∀ (sym : Byte) (pos : BitVec 4), 1 ≤ pos.toNat → pos.toNat ≤ 6 →
      exec (.displaySymbol sym pos) { s with fb := fb, mask := mask, phase := phase } = exec (.displaySymbol sym pos) s

/-- 46_render R113 (a): from IDLE, DISPLAY_SYMBOL at a valid position leaves what PAINT, FILL, FLUSH leave, one response in place
of three. -/
def Obligations.DisplaySymbolEqualsItsParts : Prop :=
  ∀ (sym : Byte) (pos : BitVec 4) (s u : State), s.phase = .idle → 1 ≤ pos.toNat → pos.toNat ≤ 6 →
    execAll [.paint sym pos, .fill, .flush] s = .next u →
    exec (.displaySymbol sym pos) s = .next { u with responses := s.responses ++ [u.statusWord] }

/-- 46_render R113 (b): from IDLE, DISPLAY_TEXT leaves what the six PAINTs of its codes, FILL and FLUSH leave, one response in
place of eight. -/
def Obligations.DisplayTextEqualsItsParts : Prop :=
  ∀ (s u : State) (c1 c2 c3 c4 c5 c6 : Byte), s.phase = .idle →
    decodePayload s.config.payloadHighFirst s.text0 s.text1 s.text2 = [c1, c2, c3, c4, c5, c6] →
    execAll [.paint c1 1, .paint c2 2, .paint c3 3, .paint c4 4, .paint c5 5, .paint c6 6, .fill, .flush] s = .next u →
    exec .displayText s = .next { u with responses := s.responses ++ [u.statusWord] }

/-- 20_memory R34, 46_render R110 (d): a display command issued again with its operand registers unchanged rebuilds the same
Frame Buffer and emits an equal frame. -/
def Obligations.ReissuedDisplayEmitsAnEqualFrame : Prop :=
  ∀ (i : Instr) (s t u : State),
    (i = .displayText ∨ ∃ sym pos, i = .displaySymbol sym pos ∧ 1 ≤ pos.toNat ∧ pos.toNat ≤ 6) →
    exec i s = .next t → exec i t = .next u →
    u.fb = t.fb ∧ u.mask = t.mask ∧ ∃ f, t.frames = s.frames ++ [f] ∧ u.frames = s.frames ++ [f] ++ [f]

/-- 46_render R111 corner case (d), 30_encoding R59 (BLANK): with TEXT0 to TEXT2 zero, every LED of the emitted frame is the
background, for every valid configuration and from any phase. -/
def Obligations.ZeroPayloadShowsTheBackground : Prop :=
  ∀ (s : State) (a : Byte), s.config.valid = true → s.text0 = 0 → s.text1 = 0 → s.text2 = 0 → s.nextAnswer = .reply a →
    ∃ t f, exec .displayText s = .next t ∧ t.frames = s.frames ++ [f] ∧
      ∀ k, k < 252 → frameRead f k = convert s.config s.bgColor

/-! ### Function units (40_font, 41_color, 44_text) -/

/-- 40_font R71: column k of row r is bit 4 - k of the stored byte; bits 7:5 of it are not used. -/
def Obligations.InkIsTheLowFiveBitsOfAStoredRow : Prop :=
  (∀ (cfg : Config) (code : Byte) (r k : Nat) (hr : r < 7), k < 5 →
    ink cfg code r k = (cfg.font[code.toNat][r]).getLsbD (4 - k)) ∧
  (0xEE : Byte).extractLsb' 0 5 = 0x0E#5

/-- 40_font R73, the default font (PRESUMED, log entry 4): it is REF_FONT in so far as its defined glyphs have 1120 ink bits, and
the glyph of 0x41 is the one the rule draws. -/
def Obligations.DefaultFontHasTheInkOfTheReferenceFont : Prop :=
  ((List.range 256).map fun code => ((List.range 7).map fun r =>
    ((List.range 5).filter fun k => ink defaultConfig (BitVec.ofNat 8 code) r k).length).sum).sum = 1120 ∧
  lookup defaultConfig 0x41 = [0x0E, 0x11, 0x11, 0x11, 0x1F, 0x11, 0x11]

/-- 41_color R76, R77 (c), the default converter (DESIGN CHOICE of the spec, log entry 5): bit replication, and the input is
recovered from the Pixel. -/
def Obligations.DefaultConverterReplicatesBits : Prop :=
  ∀ x : Word, convert defaultConfig x =
      ⟨x.extractLsb' 11 5 ++ x.extractLsb' 13 3, x.extractLsb' 5 6 ++ x.extractLsb' 9 2, x.extractLsb' 0 5 ++ x.extractLsb' 2 3⟩ ∧
    (convert defaultConfig x).red.extractLsb' 3 5 ++ (convert defaultConfig x).green.extractLsb' 2 6 ++
      (convert defaultConfig x).blue.extractLsb' 3 5 = x

/-- 00_scope R5, R6, the defaults (log entries 4 and 5): the default configuration is valid. -/
def Obligations.DefaultConfigurationIsValid : Prop := defaultConfig.valid = true

/-- 44_text R95: DecodePayload in both byte orders, its inverse, and the example `HELLO `. -/
def Obligations.PayloadDecodesToSixCodes : Prop :=
  (∀ w0 w1 w2 : Word, decodePayload true w0 w1 w2 =
      [w0.extractLsb' 8 8, w0.extractLsb' 0 8, w1.extractLsb' 8 8, w1.extractLsb' 0 8, w2.extractLsb' 8 8, w2.extractLsb' 0 8] ∧
    decodePayload false w0 w1 w2 =
      [w0.extractLsb' 0 8, w0.extractLsb' 8 8, w1.extractLsb' 0 8, w1.extractLsb' 8 8, w2.extractLsb' 0 8, w2.extractLsb' 8 8]) ∧
  (∀ c1 c2 c3 c4 c5 c6 : Byte,
    decodePayload true (payloadWord c1 c2) (payloadWord c3 c4) (payloadWord c5 c6) = [c1, c2, c3, c4, c5, c6]) ∧
  decodePayload true 0x4845 0x4C4C 0x4F20 = [0x48, 0x45, 0x4C, 0x4C, 0x4F, 0x20]

/-- 20_memory R35, R36: a write outside a grid is dropped, a Mask read outside it is false, and MaskClear makes every cell
false. -/
def Obligations.AccessOutsideAGridIsDropped : Prop :=
  (∀ (fb : FrameBuffer) (s c : Nat) (p : Pixel), ¬ (s ≤ 6 ∧ c ≤ 71) → fbWrite fb s c p = fb) ∧
  (∀ (m : MaskGrid) (s c : Nat) (b : Bool), ¬ (s ≤ 6 ∧ c ≤ 35) → maskWrite m s c b = m ∧ maskRead m s c = false) ∧
  (∀ s c, maskRead maskClear s c = false)

/-! ### Whole-machine rules (10_state) -/

/-- 10_state R13: the complete transition table of PHASE, and PHASE is bit 4 of STATUS. -/
def Obligations.PhaseFollowsTheTransitionTable : Prop :=
  (∀ (i : Instr) (s s' : State), exec i s = .next s' → s'.phase =
    match i with
    | .paint _ pos => if 1 ≤ pos.toNat ∧ pos.toNat ≤ 6 then .composing else s.phase
    | .fill | .displayText => .idle
    | .displaySymbol _ pos => if 1 ≤ pos.toNat ∧ pos.toNat ≤ 6 then .idle else s.phase
    | _ => s.phase) ∧
  (∀ s : State, s.statusWord.getLsbD 4 = true ↔ s.phase = .composing)

/-- 45_display R103, 20_memory R40 (e): only FLUSH in IDLE and the display commands emit a frame, and the frame is the window of a
Frame Buffer that is in IDLE. -/
def Obligations.FramesShowOnlyIdleBuffers : Prop :=
  ∀ (i : Instr) (s s' : State), exec i s = .next s' → StableEmission s s' ∧
    (s'.frames ≠ s.frames → (i = .flush ∧ s.phase = .idle) ∨ i = .displayText ∨ ∃ sym pos, i = .displaySymbol sym pos)

/-- 10_state R14, R15: only PAINT, FILL and the display commands change the Frame Buffer, and FILL keeps the Mask. -/
def Obligations.OnlyPaintsAndFillsWriteTheGrids : Prop :=
  ∀ (i : Instr) (s s' : State), exec i s = .next s' →
    (s'.fb ≠ s.fb → i = .fill ∨ i = .displayText ∨ ∃ sym pos, i = .paint sym pos ∨ i = .displaySymbol sym pos) ∧
    (s'.mask ≠ s.mask → i = .displayText ∨ ∃ sym pos, i = .paint sym pos ∨ i = .displaySymbol sym pos)

/-- 10_state R16: no step changes the configuration. -/
def Obligations.ConfigurationNeverChanges : Prop :=
  ∀ s s' : State, step s = .next s' → s'.config = s.config

/-- 10_state R17: every step keeps "in IDLE all cells that are no ink hold one background Pixel". -/
def Obligations.EveryStepKeepsTheBackgroundUniform : Prop :=
  ∀ s s' : State, s.BackgroundUniform → step s = .next s' → s'.BackgroundUniform

/-- 42_glyph R83, 10_state R15: every step keeps the marks of the Mask inside the six slots. -/
def Obligations.EveryStepKeepsTheMaskInsideTheSlots : Prop :=
  ∀ s s' : State, s.MaskInSlots → step s = .next s' → s'.MaskInSlots

/-- The reset state meets the three invariants above (10_state R27). -/
def Obligations.ResetStateMeetsTheInvariants : Prop :=
  State.reset.StatusLegal ∧ State.reset.BackgroundUniform ∧ State.reset.MaskInSlots

/-- 10_state R29 (b), 45_display R101: Frame Buffer columns 36..71 can never be observed: two states that differ in them alone
take steps to states that differ in them alone, with the same responses and the same frames. -/
def Obligations.HiddenColumnsAreNeverObserved : Prop :=
  ∀ s t s' : State, VisiblyEqual s t → step s = .next s' → ∃ t', step t = .next t' ∧ VisiblyEqual s' t'
end

