-- ==== Sys2Proof/Laws/Encoding.lean ====
section
/-! SUPPORT. The fields of the encoder's words (30_encoding R50, R52), which the decoder reads. -/

namespace Sys2Proof

theorem getLsbD_encodeWrite (reg : HostReg) (data : Word) (k : Nat) :
    (encodeWrite reg data).getLsbD k =
      if k < 16 then data.getLsbD k else if k < 19 then reg.addr.getLsbD (k - 16) else k == 19 := by
  show (((1#1 ++ reg.addr : BitVec (1 + 3)) ++ data : BitVec (1 + 3 + 16))).getLsbD k = _
  rw [BitVec.getLsbD_append, BitVec.getLsbD_append]
  by_cases h1 : k < 16
  · simp [h1]
  · by_cases h2 : k < 19
    · simp [h1, h2, show k - 16 < 3 by omega]
    · have h3 : ¬ k - 16 < 3 := by omega
      simp only [h1, h2, h3, if_false]
      by_cases h4 : k = 19
      · subst h4; decide
      · have : 1 ≤ k - 16 - 3 := by omega
        rw [BitVec.getLsbD_of_ge _ _ this]; simp [h4]

theorem getLsbD_commandWord (op pos : BitVec 4) (sym : Byte) (k : Nat) :
    (commandWord op pos sym).getLsbD k =
      if k < 8 then sym.getLsbD k else if k < 12 then pos.getLsbD (k - 8) else op.getLsbD (k - 12) := by
  show (((op ++ pos : BitVec (4 + 4)) ++ sym : BitVec (4 + 4 + 8))).getLsbD k = _
  rw [BitVec.getLsbD_append, BitVec.getLsbD_append]
  by_cases h1 : k < 8
  · simp [h1]
  · by_cases h2 : k < 12
    · simp [h1, h2, show k - 8 < 4 by omega]
    · simp [h1, h2, show ¬ k - 8 < 4 by omega, show k - 8 - 4 = k - 12 by omega]

@[simp] theorem encodeWrite_we (reg : HostReg) (data : Word) : (encodeWrite reg data).getLsbD 19 = true := by
  rw [getLsbD_encodeWrite]; simp

@[simp] theorem encodeWrite_addr (reg : HostReg) (data : Word) : (encodeWrite reg data).extractLsb' 16 3 = reg.addr := by
  apply BitVec.eq_of_getLsbD_eq
  intro k hk
  rw [BitVec.getLsbD_extractLsb', getLsbD_encodeWrite]
  simp [hk, show 16 + k < 19 by omega]

@[simp] theorem encodeWrite_data (reg : HostReg) (data : Word) : (encodeWrite reg data).extractLsb' 0 16 = data := by
  apply BitVec.eq_of_getLsbD_eq
  intro k hk
  rw [BitVec.getLsbD_extractLsb', getLsbD_encodeWrite]
  simp [hk]

@[simp] theorem commandWord_op (op pos : BitVec 4) (sym : Byte) : (commandWord op pos sym).extractLsb' 12 4 = op := by
  apply BitVec.eq_of_getLsbD_eq
  intro k hk
  rw [BitVec.getLsbD_extractLsb', getLsbD_commandWord]
  simp [hk, show ¬ 12 + k < 8 by omega]

@[simp] theorem commandWord_pos (op pos : BitVec 4) (sym : Byte) : (commandWord op pos sym).extractLsb' 8 4 = pos := by
  apply BitVec.eq_of_getLsbD_eq
  intro k hk
  rw [BitVec.getLsbD_extractLsb', getLsbD_commandWord]
  simp [hk, show 8 + k < 12 by omega]

@[simp] theorem commandWord_sym (op pos : BitVec 4) (sym : Byte) : (commandWord op pos sym).extractLsb' 0 8 = sym := by
  apply BitVec.eq_of_getLsbD_eq
  intro k hk
  rw [BitVec.getLsbD_extractLsb', getLsbD_commandWord]
  simp [hk]

@[simp] theorem ofAddr_addr (reg : HostReg) : HostReg.ofAddr reg.addr = reg := by cases reg <;> rfl

/-- The decoder on a write to CMD reads the command word (30_encoding R60). -/
theorem decode_encodeCommand (op pos : BitVec 4) (sym : Byte) :
    decode (encodeCommand op pos sym) = decodeCommand (commandWord op pos sym) := by
  simp [decode, encodeCommand]

end Sys2Proof
end

