-- ==== Sys2Proof/Laws/Grid.lean ====
section
/-! SUPPORT. The Frame Buffer, the Mask and the frame: a read after a write, and that equal contents are equal data. -/

namespace Sys2Proof.Machine

/-- FbWrite then FbRead (20_memory R35): the written cell has the Pixel, every other cell is as before. -/
theorem fbRead_fbWrite (fb : FrameBuffer) (s c : Nat) (p : Pixel) (s' c' : Nat) :
    fbRead (fbWrite fb s c p) s' c' =
      if s' = s ∧ c' = c ∧ s < 7 ∧ c < 72 then p else fbRead fb s' c' := by
  unfold fbRead fbWrite
  by_cases hw : s < 7 ∧ c < 72
  · by_cases hr : s' < 7 ∧ c' < 72
    · by_cases hs : s' = s
      · subst hs
        by_cases hc : c' = c
        · subst hc; simp [hw]
        · simp [hw, hr, hc, Vector.getElem_set_ne _ _ (Ne.symm hc)]
      · simp [hw, hr, hs, Vector.getElem_set_ne _ _ (Ne.symm hs)]
    · simp only [hw, hr, dite_false]
      split
      · next h => exact absurd ⟨h.1 ▸ hw.1, h.2.1 ▸ hw.2⟩ hr
      · rfl
  · simp only [hw, and_false, dite_false, if_false]

/-- MaskWrite then MaskRead (20_memory R36). -/
theorem maskRead_maskWrite (m : MaskGrid) (s c : Nat) (b : Bool) (s' c' : Nat) :
    maskRead (maskWrite m s c b) s' c' =
      if s' = s ∧ c' = c ∧ s < 7 ∧ c < 36 then b else maskRead m s' c' := by
  unfold maskRead maskWrite
  by_cases hw : s < 7 ∧ c < 36
  · by_cases hr : s' < 7 ∧ c' < 36
    · by_cases hs : s' = s
      · subst hs
        by_cases hc : c' = c
        · subst hc; simp [hw]
        · simp [hw, hr, hc, Vector.getElem_set_ne _ _ (Ne.symm hc)]
      · simp [hw, hr, hs, Vector.getElem_set_ne _ _ (Ne.symm hs)]
    · simp only [hw, hr, dite_false]
      split
      · next h => exact absurd ⟨h.1 ▸ hw.1, h.2.1 ▸ hw.2⟩ hr
      · rfl
  · simp only [hw, and_false, dite_false, if_false]

/-- A write of a frame element, then a read (45_display R106). -/
theorem frameRead_frameWrite (out : Frame) (k : Nat) (p : Pixel) (k' : Nat) :
    frameRead (frameWrite out k p) k' = if k' = k ∧ k < 252 then p else frameRead out k' := by
  unfold frameRead frameWrite
  by_cases hw : k < 252
  · by_cases hr : k' < 252
    · by_cases hk : k' = k
      · subst hk; simp [hw]
      · simp [hw, hr, hk, Vector.getElem_set_ne _ _ (Ne.symm hk)]
    · simp only [hw, hr, dite_false]
      split
      · next h => exact absurd (h.1 ▸ hw) hr
      · rfl
  · simp only [hw, and_false, dite_false, if_false]

/-- The cleared Mask is false everywhere (20_memory R36). -/
@[simp] theorem maskRead_maskClear (s c : Nat) : maskRead maskClear s c = false := by
  unfold maskRead maskClear; split <;> simp

/-- Columns with no Mask cell read as false (20_memory R36). -/
theorem maskRead_outside (m : MaskGrid) (s c : Nat) (h : 36 ≤ c) : maskRead m s c = false := by
  unfold maskRead; rw [dif_neg]; omega

/-- Two Frame Buffers that read alike at every cell are the same data. -/
theorem fb_eq_of_read {a b : FrameBuffer} (h : ∀ s c, s < 7 → c < 72 → fbRead a s c = fbRead b s c) : a = b := by
  ext s hs c hc
  all_goals
    have := h s c hs hc
    simp only [fbRead, hs, hc, and_self, dite_true] at this
    simp [this]

/-- Two Masks that read alike at every cell are the same data. -/
theorem mask_eq_of_read {a b : MaskGrid} (h : ∀ s c, s < 7 → c < 36 → maskRead a s c = maskRead b s c) : a = b := by
  ext s hs c hc
  have := h s c hs hc
  simp only [maskRead, hs, hc, and_self, dite_true] at this
  rw [this]

/-- Two frames that read alike at every index are the same data. -/
theorem frame_eq_of_read {a b : Frame} (h : ∀ k, k < 252 → frameRead a k = frameRead b k) : a = b := by
  ext k hk
  all_goals
    have := h k hk
    simp only [frameRead, hk, dite_true] at this
    simp [this]

/-- Every cell of the reset Frame Buffer reads black (10_state R27). -/
@[simp] theorem fbRead_reset (s c : Nat) : fbRead State.reset.fb s c = Pixel.black := by
  unfold fbRead State.reset; split <;> simp

/-- Every cell of the reset Mask reads false (10_state R27). -/
@[simp] theorem maskRead_reset (s c : Nat) : maskRead State.reset.mask s c = false := by
  unfold maskRead State.reset; split <;> simp

end Sys2Proof.Machine
end

