-- ==== Sys2Proof/Laws/Loop.lean ====
section
/-! SUPPORT. The counted loop. -/

namespace Sys2Proof.Machine

/-- What every iteration leaves alone, the loop leaves alone. -/
theorem forRange_preserves {σ α : Type} (view : σ → α) (body : Nat → σ → σ) (h : ∀ i s, view (body i s) = view s)
    (n : Nat) (s : σ) : view (forRange n body s) = view s := by
  induction n with
  | zero => rfl
  | succ n ih => rw [forRange, h, ih]

/-- What every iteration keeps, the loop keeps. -/
theorem forRange_keeps {σ : Type} (P : σ → Prop) (body : Nat → σ → σ) (n : Nat) (h : ∀ i s, i < n → P s → P (body i s))
    (s : σ) (hs : P s) : P (forRange n body s) := by
  induction n with
  | zero => exact hs
  | succ n ih => exact h n _ (by omega) (ih fun i s hi => h i s (by omega))

/-- The value at one place `j` after a loop in which iteration `j` alone changes that place, by `g`. -/
theorem forRange_at {σ α : Type} (view : σ → α) (body : Nat → σ → σ) (j : Nat) (g : α → α) (n : Nat) (s : σ)
    (hit : ∀ t, view (body j t) = g (view t)) (miss : ∀ i t, i ≠ j → view (body i t) = view t) :
    view (forRange n body s) = if j < n then g (view s) else view s := by
  induction n with
  | zero => simp [forRange]
  | succ n ih =>
    rw [forRange]
    by_cases hj : n = j
    · subst hj; rw [hit, ih]; simp
    · rw [miss n _ hj, ih]
      have : (j < n + 1) = (j < n) := by simp only [eq_iff_iff]; omega
      simp [this]

end Sys2Proof.Machine
end

