-- ==== Sys2Proof/Laws/Fill.lean ====
section
/-! SUPPORT. What a fill does to each cell of the Frame Buffer (43_fill R91). -/

namespace Sys2Proof.Machine

theorem fillCell_fb (m : MaskGrid) (bg : Pixel) (r c : Nat) (fb : FrameBuffer) (s' c' : Nat) :
    fbRead (fillCell m bg r c fb) s' c' =
      if s' = r ∧ c' = c ∧ r < 7 ∧ c < 72 ∧ maskRead m r c = false then bg else fbRead fb s' c' := by
  unfold fillCell
  cases h : maskRead m r c <;> simp [fbRead_fbWrite]

/-- A loop of fill iterations on one strip, at one cell of it. -/
theorem fillRow_fb (m : MaskGrid) (bg : Pixel) (r : Nat) (fb : FrameBuffer) (s' c' : Nat) (hs : s' < 7) (hc : c' < 72) :
    fbRead (forRange 72 (fun c => fillCell m bg r c) fb) s' c' =
      if s' = r ∧ maskRead m s' c' = false then bg else fbRead fb s' c' := by
  by_cases hr : s' = r
  · subst hr
    rw [forRange_at (fun t => fbRead t s' c') _ c' (fun old => if maskRead m s' c' = false then bg else old)]
    · simp [hc]
    · intro t; rw [fillCell_fb]; exact if_congr (by simp [hs, hc]) rfl rfl
    · intro i t hi; rw [fillCell_fb, if_neg]; omega
  · rw [forRange_preserves (fun t => fbRead t s' c'), if_neg (fun h => hr h.1)]
    intro i t; rw [fillCell_fb, if_neg (fun h => hr h.1)]

/-- The Frame Buffer after a fill (43_fill R91): every Mask-false cell takes the background, every Mask-true cell keeps its
Pixel. -/
theorem fillGrid_read (m : MaskGrid) (bg : Pixel) (fb : FrameBuffer) (r c : Nat) (hr : r < 7) (hc : c < 72) :
    fbRead (fillGrid m bg fb) r c = if maskRead m r c then fbRead fb r c else bg := by
  unfold fillGrid
  rw [forRange_at (fun t => fbRead t r c) _ r (fun old => if maskRead m r c then old else bg)]
  · simp [hr]
  · intro t; rw [fillRow_fb _ _ _ _ _ _ hr hc]; cases maskRead m r c <;> simp
  · intro i t hi; rw [fillRow_fb _ _ _ _ _ _ hr hc, if_neg]; exact fun h => hi h.1.symm

end Sys2Proof.Machine
end

