-- ==== Sys2Proof/Laws/Raster.lean ====
section
/-! SUPPORT. What a paint does to each cell of the Frame Buffer and the Mask (42_glyph R83). -/

namespace Sys2Proof.Machine

theorem paintCell_fb (row : BitVec 5) (c0 : Nat) (fg : Pixel) (r k : Nat) (cv : Canvas) (s' c' : Nat) :
    fbRead (paintCell row c0 fg r k cv).fb s' c' =
      if s' = r ∧ c' = c0 + k ∧ r < 7 ∧ c0 + k < 72 ∧ row.getLsbD (4 - k) = true then fg
      else fbRead cv.fb s' c' := by
  unfold paintCell
  cases h : row.getLsbD (4 - k) <;> simp [fbRead_fbWrite]

theorem paintCell_mask (row : BitVec 5) (c0 : Nat) (fg : Pixel) (r k : Nat) (cv : Canvas) (s' c' : Nat) :
    maskRead (paintCell row c0 fg r k cv).mask s' c' =
      if s' = r ∧ c' = c0 + k ∧ r < 7 ∧ c0 + k < 36 then row.getLsbD (4 - k)
      else maskRead cv.mask s' c' := by
  unfold paintCell
  cases h : row.getLsbD (4 - k) <;> simp [maskRead_maskWrite]

theorem paintRow_fb (row : BitVec 5) (c0 : Nat) (fg : Pixel) (r : Nat) (cv : Canvas) (s' c' : Nat)
    (hs : s' < 7) (hc : c' < 72) :
    fbRead (forRange 5 (fun k => paintCell row c0 fg r k) cv).fb s' c' =
      if s' = r ∧ (c0 ≤ c' ∧ c' < c0 + 5) ∧ row.getLsbD (4 - (c' - c0)) = true then fg
      else fbRead cv.fb s' c' := by
  by_cases hr : s' = r ∧ c0 ≤ c' ∧ row.getLsbD (4 - (c' - c0)) = true
  · obtain ⟨rfl, h0, hb⟩ := hr
    rw [forRange_at (fun t : Canvas => fbRead t.fb s' c') _ (c' - c0) (fun _ => fg)]
    · have : (c' - c0 < 5) = (c' < c0 + 5) := by simp only [eq_iff_iff]; omega
      simp [this, h0, hb]
    · intro t; rw [paintCell_fb, if_pos]; refine ⟨rfl, by omega, hs, by omega, hb⟩
    · intro i t hi; rw [paintCell_fb, if_neg]; omega
  · rw [forRange_preserves (fun t : Canvas => fbRead t.fb s' c'), if_neg]
    · rintro ⟨h1, ⟨h2, _⟩, h3⟩; exact hr ⟨h1, h2, h3⟩
    · intro i t
      rw [paintCell_fb, if_neg]
      rintro ⟨h1, h2, _, _, h3⟩
      exact hr ⟨h1, by omega, by rw [show c' - c0 = i by omega]; exact h3⟩

theorem paintRow_mask (row : BitVec 5) (c0 : Nat) (fg : Pixel) (r : Nat) (cv : Canvas) (s' c' : Nat)
    (hs : s' < 7) (hc : c' < 36) :
    maskRead (forRange 5 (fun k => paintCell row c0 fg r k) cv).mask s' c' =
      if s' = r ∧ (c0 ≤ c' ∧ c' < c0 + 5) then row.getLsbD (4 - (c' - c0)) else maskRead cv.mask s' c' := by
  by_cases hr : s' = r ∧ c0 ≤ c'
  · obtain ⟨rfl, h0⟩ := hr
    rw [forRange_at (fun t : Canvas => maskRead t.mask s' c') _ (c' - c0) (fun _ => row.getLsbD (4 - (c' - c0)))]
    · have : (c' - c0 < 5) = (c' < c0 + 5) := by simp only [eq_iff_iff]; omega
      simp [this, h0]
    · intro t; rw [paintCell_mask, if_pos]; refine ⟨rfl, by omega, hs, by omega⟩
    · intro i t hi; rw [paintCell_mask, if_neg]; omega
  · rw [forRange_preserves (fun t : Canvas => maskRead t.mask s' c'), if_neg]
    · rintro ⟨h1, h2, _⟩; exact hr ⟨h1, h2⟩
    · intro i t
      rw [paintCell_mask, if_neg]
      rintro ⟨h1, h2, _⟩
      exact hr ⟨h1, by omega⟩

/-- The Frame Buffer after a paint (42_glyph R83): the ink cells of the slot take the foreground, every other cell is as it
was. -/
theorem paintCanvas_fb (cfg : Config) (sym : Byte) (p : Nat) (fg : Pixel) (cv : Canvas) (r c : Nat) (hr : r < 7) (hc : c < 72) :
    fbRead (paintCanvas cfg sym p fg cv).fb r c =
      if (slotCol cfg p ≤ c ∧ c < slotCol cfg p + 5) ∧
          ink cfg sym r (c - slotCol cfg p) = true then fg
      else fbRead cv.fb r c := by
  unfold paintCanvas
  rw [forRange_at (fun t : Canvas => fbRead t.fb r c) _ r
    (fun old => if (slotCol cfg p ≤ c ∧ c < slotCol cfg p + 5) ∧
      ink cfg sym r (c - slotCol cfg p) = true then fg else old)]
  · simp [hr]
  · intro t
    rw [paintRow_fb _ _ _ _ _ _ _ hr hc]
    exact if_congr (by simp [ink]) rfl rfl
  · intro i t hi
    rw [paintRow_fb _ _ _ _ _ _ _ hr hc, if_neg]
    exact fun h => hi h.1.symm

/-- The Mask after a paint (42_glyph R83): the 35 cells of the slot hold the bitmap, every other cell is as it was. -/
theorem paintCanvas_mask (cfg : Config) (sym : Byte) (p : Nat) (fg : Pixel) (cv : Canvas) (r c : Nat) (hr : r < 7) (hc : c < 36) :
    maskRead (paintCanvas cfg sym p fg cv).mask r c =
      if slotCol cfg p ≤ c ∧ c < slotCol cfg p + 5 then ink cfg sym r (c - slotCol cfg p)
      else maskRead cv.mask r c := by
  unfold paintCanvas
  rw [forRange_at (fun t : Canvas => maskRead t.mask r c) _ r
    (fun old => if slotCol cfg p ≤ c ∧ c < slotCol cfg p + 5 then
      ink cfg sym r (c - slotCol cfg p) else old)]
  · simp [hr]
  · intro t
    rw [paintRow_mask _ _ _ _ _ _ _ hr hc]
    exact if_congr (by simp) rfl rfl
  · intro i t hi
    rw [paintRow_mask _ _ _ _ _ _ _ hr hc, if_neg]
    exact fun h => hi h.1.symm

end Sys2Proof.Machine
end

