-- ==== Sys2Proof/Laws/State.lean ====
section
/-! SUPPORT. One lemma per field and update of the state, so that no later proof unfolds a record update. -/

namespace Sys2Proof.Machine

variable (s : State)

/-! ### setStatus -/

@[simp] theorem State.setStatus_config (code : BitVec 4) (txCode : Byte) : (s.setStatus code txCode).config = s.config := rfl
@[simp] theorem State.setStatus_fgColor (code : BitVec 4) (txCode : Byte) : (s.setStatus code txCode).fgColor = s.fgColor := rfl
@[simp] theorem State.setStatus_bgColor (code : BitVec 4) (txCode : Byte) : (s.setStatus code txCode).bgColor = s.bgColor := rfl
@[simp] theorem State.setStatus_text0 (code : BitVec 4) (txCode : Byte) : (s.setStatus code txCode).text0 = s.text0 := rfl
@[simp] theorem State.setStatus_text1 (code : BitVec 4) (txCode : Byte) : (s.setStatus code txCode).text1 = s.text1 := rfl
@[simp] theorem State.setStatus_text2 (code : BitVec 4) (txCode : Byte) : (s.setStatus code txCode).text2 = s.text2 := rfl
@[simp] theorem State.setStatus_code (code : BitVec 4) (txCode : Byte) : (s.setStatus code txCode).code = code := rfl
@[simp] theorem State.setStatus_txCode (code : BitVec 4) (txCode : Byte) : (s.setStatus code txCode).txCode = txCode := rfl
@[simp] theorem State.setStatus_phase (code : BitVec 4) (txCode : Byte) : (s.setStatus code txCode).phase = s.phase := rfl
@[simp] theorem State.setStatus_fb (code : BitVec 4) (txCode : Byte) : (s.setStatus code txCode).fb = s.fb := rfl
@[simp] theorem State.setStatus_mask (code : BitVec 4) (txCode : Byte) : (s.setStatus code txCode).mask = s.mask := rfl
@[simp] theorem State.setStatus_hostQueue (code : BitVec 4) (txCode : Byte) : (s.setStatus code txCode).hostQueue = s.hostQueue := rfl
@[simp] theorem State.setStatus_txReplies (code : BitVec 4) (txCode : Byte) : (s.setStatus code txCode).txReplies = s.txReplies := rfl
@[simp] theorem State.setStatus_txDraws (code : BitVec 4) (txCode : Byte) : (s.setStatus code txCode).txDraws = s.txDraws := rfl
@[simp] theorem State.setStatus_responses (code : BitVec 4) (txCode : Byte) : (s.setStatus code txCode).responses = s.responses := rfl
@[simp] theorem State.setStatus_frames (code : BitVec 4) (txCode : Byte) : (s.setStatus code txCode).frames = s.frames := rfl

/-! ### setPhase -/

@[simp] theorem State.setPhase_config (p : Phase) : (s.setPhase p).config = s.config := rfl
@[simp] theorem State.setPhase_fgColor (p : Phase) : (s.setPhase p).fgColor = s.fgColor := rfl
@[simp] theorem State.setPhase_bgColor (p : Phase) : (s.setPhase p).bgColor = s.bgColor := rfl
@[simp] theorem State.setPhase_text0 (p : Phase) : (s.setPhase p).text0 = s.text0 := rfl
@[simp] theorem State.setPhase_text1 (p : Phase) : (s.setPhase p).text1 = s.text1 := rfl
@[simp] theorem State.setPhase_text2 (p : Phase) : (s.setPhase p).text2 = s.text2 := rfl
@[simp] theorem State.setPhase_code (p : Phase) : (s.setPhase p).code = s.code := rfl
@[simp] theorem State.setPhase_txCode (p : Phase) : (s.setPhase p).txCode = s.txCode := rfl
@[simp] theorem State.setPhase_phase (p : Phase) : (s.setPhase p).phase = p := rfl
@[simp] theorem State.setPhase_fb (p : Phase) : (s.setPhase p).fb = s.fb := rfl
@[simp] theorem State.setPhase_mask (p : Phase) : (s.setPhase p).mask = s.mask := rfl
@[simp] theorem State.setPhase_hostQueue (p : Phase) : (s.setPhase p).hostQueue = s.hostQueue := rfl
@[simp] theorem State.setPhase_txReplies (p : Phase) : (s.setPhase p).txReplies = s.txReplies := rfl
@[simp] theorem State.setPhase_txDraws (p : Phase) : (s.setPhase p).txDraws = s.txDraws := rfl
@[simp] theorem State.setPhase_responses (p : Phase) : (s.setPhase p).responses = s.responses := rfl
@[simp] theorem State.setPhase_frames (p : Phase) : (s.setPhase p).frames = s.frames := rfl

/-! ### setFb -/

@[simp] theorem State.setFb_config (fb : FrameBuffer) : (s.setFb fb).config = s.config := rfl
@[simp] theorem State.setFb_fgColor (fb : FrameBuffer) : (s.setFb fb).fgColor = s.fgColor := rfl
@[simp] theorem State.setFb_bgColor (fb : FrameBuffer) : (s.setFb fb).bgColor = s.bgColor := rfl
@[simp] theorem State.setFb_text0 (fb : FrameBuffer) : (s.setFb fb).text0 = s.text0 := rfl
@[simp] theorem State.setFb_text1 (fb : FrameBuffer) : (s.setFb fb).text1 = s.text1 := rfl
@[simp] theorem State.setFb_text2 (fb : FrameBuffer) : (s.setFb fb).text2 = s.text2 := rfl
@[simp] theorem State.setFb_code (fb : FrameBuffer) : (s.setFb fb).code = s.code := rfl
@[simp] theorem State.setFb_txCode (fb : FrameBuffer) : (s.setFb fb).txCode = s.txCode := rfl
@[simp] theorem State.setFb_phase (fb : FrameBuffer) : (s.setFb fb).phase = s.phase := rfl
@[simp] theorem State.setFb_fb (fb : FrameBuffer) : (s.setFb fb).fb = fb := rfl
@[simp] theorem State.setFb_mask (fb : FrameBuffer) : (s.setFb fb).mask = s.mask := rfl
@[simp] theorem State.setFb_hostQueue (fb : FrameBuffer) : (s.setFb fb).hostQueue = s.hostQueue := rfl
@[simp] theorem State.setFb_txReplies (fb : FrameBuffer) : (s.setFb fb).txReplies = s.txReplies := rfl
@[simp] theorem State.setFb_txDraws (fb : FrameBuffer) : (s.setFb fb).txDraws = s.txDraws := rfl
@[simp] theorem State.setFb_responses (fb : FrameBuffer) : (s.setFb fb).responses = s.responses := rfl
@[simp] theorem State.setFb_frames (fb : FrameBuffer) : (s.setFb fb).frames = s.frames := rfl

/-! ### setMask -/

@[simp] theorem State.setMask_config (m : MaskGrid) : (s.setMask m).config = s.config := rfl
@[simp] theorem State.setMask_fgColor (m : MaskGrid) : (s.setMask m).fgColor = s.fgColor := rfl
@[simp] theorem State.setMask_bgColor (m : MaskGrid) : (s.setMask m).bgColor = s.bgColor := rfl
@[simp] theorem State.setMask_text0 (m : MaskGrid) : (s.setMask m).text0 = s.text0 := rfl
@[simp] theorem State.setMask_text1 (m : MaskGrid) : (s.setMask m).text1 = s.text1 := rfl
@[simp] theorem State.setMask_text2 (m : MaskGrid) : (s.setMask m).text2 = s.text2 := rfl
@[simp] theorem State.setMask_code (m : MaskGrid) : (s.setMask m).code = s.code := rfl
@[simp] theorem State.setMask_txCode (m : MaskGrid) : (s.setMask m).txCode = s.txCode := rfl
@[simp] theorem State.setMask_phase (m : MaskGrid) : (s.setMask m).phase = s.phase := rfl
@[simp] theorem State.setMask_fb (m : MaskGrid) : (s.setMask m).fb = s.fb := rfl
@[simp] theorem State.setMask_mask (m : MaskGrid) : (s.setMask m).mask = m := rfl
@[simp] theorem State.setMask_hostQueue (m : MaskGrid) : (s.setMask m).hostQueue = s.hostQueue := rfl
@[simp] theorem State.setMask_txReplies (m : MaskGrid) : (s.setMask m).txReplies = s.txReplies := rfl
@[simp] theorem State.setMask_txDraws (m : MaskGrid) : (s.setMask m).txDraws = s.txDraws := rfl
@[simp] theorem State.setMask_responses (m : MaskGrid) : (s.setMask m).responses = s.responses := rfl
@[simp] theorem State.setMask_frames (m : MaskGrid) : (s.setMask m).frames = s.frames := rfl

/-! ### respond -/

@[simp] theorem State.respond_config (w : Word) : (s.respond w).config = s.config := rfl
@[simp] theorem State.respond_fgColor (w : Word) : (s.respond w).fgColor = s.fgColor := rfl
@[simp] theorem State.respond_bgColor (w : Word) : (s.respond w).bgColor = s.bgColor := rfl
@[simp] theorem State.respond_text0 (w : Word) : (s.respond w).text0 = s.text0 := rfl
@[simp] theorem State.respond_text1 (w : Word) : (s.respond w).text1 = s.text1 := rfl
@[simp] theorem State.respond_text2 (w : Word) : (s.respond w).text2 = s.text2 := rfl
@[simp] theorem State.respond_code (w : Word) : (s.respond w).code = s.code := rfl
@[simp] theorem State.respond_txCode (w : Word) : (s.respond w).txCode = s.txCode := rfl
@[simp] theorem State.respond_phase (w : Word) : (s.respond w).phase = s.phase := rfl
@[simp] theorem State.respond_fb (w : Word) : (s.respond w).fb = s.fb := rfl
@[simp] theorem State.respond_mask (w : Word) : (s.respond w).mask = s.mask := rfl
@[simp] theorem State.respond_hostQueue (w : Word) : (s.respond w).hostQueue = s.hostQueue := rfl
@[simp] theorem State.respond_txReplies (w : Word) : (s.respond w).txReplies = s.txReplies := rfl
@[simp] theorem State.respond_txDraws (w : Word) : (s.respond w).txDraws = s.txDraws := rfl
@[simp] theorem State.respond_responses (w : Word) : (s.respond w).responses = s.responses ++ [w] := rfl
@[simp] theorem State.respond_frames (w : Word) : (s.respond w).frames = s.frames := rfl

/-! ### emit -/

@[simp] theorem State.emit_config (f : Frame) : (s.emit f).config = s.config := rfl
@[simp] theorem State.emit_fgColor (f : Frame) : (s.emit f).fgColor = s.fgColor := rfl
@[simp] theorem State.emit_bgColor (f : Frame) : (s.emit f).bgColor = s.bgColor := rfl
@[simp] theorem State.emit_text0 (f : Frame) : (s.emit f).text0 = s.text0 := rfl
@[simp] theorem State.emit_text1 (f : Frame) : (s.emit f).text1 = s.text1 := rfl
@[simp] theorem State.emit_text2 (f : Frame) : (s.emit f).text2 = s.text2 := rfl
@[simp] theorem State.emit_code (f : Frame) : (s.emit f).code = s.code := rfl
@[simp] theorem State.emit_txCode (f : Frame) : (s.emit f).txCode = s.txCode := rfl
@[simp] theorem State.emit_phase (f : Frame) : (s.emit f).phase = s.phase := rfl
@[simp] theorem State.emit_fb (f : Frame) : (s.emit f).fb = s.fb := rfl
@[simp] theorem State.emit_mask (f : Frame) : (s.emit f).mask = s.mask := rfl
@[simp] theorem State.emit_hostQueue (f : Frame) : (s.emit f).hostQueue = s.hostQueue := rfl
@[simp] theorem State.emit_txReplies (f : Frame) : (s.emit f).txReplies = s.txReplies.tail := rfl
@[simp] theorem State.emit_txDraws (f : Frame) : (s.emit f).txDraws = s.txDraws + 1 := rfl
@[simp] theorem State.emit_responses (f : Frame) : (s.emit f).responses = s.responses := rfl
@[simp] theorem State.emit_frames (f : Frame) : (s.emit f).frames = s.frames ++ [f] := rfl

/-! ### setCanvas -/

@[simp] theorem State.setCanvas_config (cv : Canvas) : (s.setCanvas cv).config = s.config := rfl
@[simp] theorem State.setCanvas_fgColor (cv : Canvas) : (s.setCanvas cv).fgColor = s.fgColor := rfl
@[simp] theorem State.setCanvas_bgColor (cv : Canvas) : (s.setCanvas cv).bgColor = s.bgColor := rfl
@[simp] theorem State.setCanvas_text0 (cv : Canvas) : (s.setCanvas cv).text0 = s.text0 := rfl
@[simp] theorem State.setCanvas_text1 (cv : Canvas) : (s.setCanvas cv).text1 = s.text1 := rfl
@[simp] theorem State.setCanvas_text2 (cv : Canvas) : (s.setCanvas cv).text2 = s.text2 := rfl
@[simp] theorem State.setCanvas_code (cv : Canvas) : (s.setCanvas cv).code = s.code := rfl
@[simp] theorem State.setCanvas_txCode (cv : Canvas) : (s.setCanvas cv).txCode = s.txCode := rfl
@[simp] theorem State.setCanvas_phase (cv : Canvas) : (s.setCanvas cv).phase = s.phase := rfl
@[simp] theorem State.setCanvas_fb (cv : Canvas) : (s.setCanvas cv).fb = cv.fb := rfl
@[simp] theorem State.setCanvas_mask (cv : Canvas) : (s.setCanvas cv).mask = cv.mask := rfl
@[simp] theorem State.setCanvas_hostQueue (cv : Canvas) : (s.setCanvas cv).hostQueue = s.hostQueue := rfl
@[simp] theorem State.setCanvas_txReplies (cv : Canvas) : (s.setCanvas cv).txReplies = s.txReplies := rfl
@[simp] theorem State.setCanvas_txDraws (cv : Canvas) : (s.setCanvas cv).txDraws = s.txDraws := rfl
@[simp] theorem State.setCanvas_responses (cv : Canvas) : (s.setCanvas cv).responses = s.responses := rfl
@[simp] theorem State.setCanvas_frames (cv : Canvas) : (s.setCanvas cv).frames = s.frames := rfl

/-! ### respondStatus, setOk, takeReply -/

@[simp] theorem State.respondStatus_config : s.respondStatus.config = s.config := rfl
@[simp] theorem State.respondStatus_fgColor : s.respondStatus.fgColor = s.fgColor := rfl
@[simp] theorem State.respondStatus_bgColor : s.respondStatus.bgColor = s.bgColor := rfl
@[simp] theorem State.respondStatus_text0 : s.respondStatus.text0 = s.text0 := rfl
@[simp] theorem State.respondStatus_text1 : s.respondStatus.text1 = s.text1 := rfl
@[simp] theorem State.respondStatus_text2 : s.respondStatus.text2 = s.text2 := rfl
@[simp] theorem State.respondStatus_code : s.respondStatus.code = s.code := rfl
@[simp] theorem State.respondStatus_txCode : s.respondStatus.txCode = s.txCode := rfl
@[simp] theorem State.respondStatus_phase : s.respondStatus.phase = s.phase := rfl
@[simp] theorem State.respondStatus_fb : s.respondStatus.fb = s.fb := rfl
@[simp] theorem State.respondStatus_mask : s.respondStatus.mask = s.mask := rfl
@[simp] theorem State.respondStatus_hostQueue : s.respondStatus.hostQueue = s.hostQueue := rfl
@[simp] theorem State.respondStatus_txReplies : s.respondStatus.txReplies = s.txReplies := rfl
@[simp] theorem State.respondStatus_txDraws : s.respondStatus.txDraws = s.txDraws := rfl
@[simp] theorem State.respondStatus_responses : s.respondStatus.responses = s.responses ++ [s.statusWord] := rfl
@[simp] theorem State.respondStatus_frames : s.respondStatus.frames = s.frames := rfl
@[simp] theorem State.setOk_config : s.setOk.config = s.config := rfl
@[simp] theorem State.setOk_fgColor : s.setOk.fgColor = s.fgColor := rfl
@[simp] theorem State.setOk_bgColor : s.setOk.bgColor = s.bgColor := rfl
@[simp] theorem State.setOk_text0 : s.setOk.text0 = s.text0 := rfl
@[simp] theorem State.setOk_text1 : s.setOk.text1 = s.text1 := rfl
@[simp] theorem State.setOk_text2 : s.setOk.text2 = s.text2 := rfl
@[simp] theorem State.setOk_code : s.setOk.code = 0 := rfl
@[simp] theorem State.setOk_txCode : s.setOk.txCode = 0 := rfl
@[simp] theorem State.setOk_phase : s.setOk.phase = s.phase := rfl
@[simp] theorem State.setOk_fb : s.setOk.fb = s.fb := rfl
@[simp] theorem State.setOk_mask : s.setOk.mask = s.mask := rfl
@[simp] theorem State.setOk_hostQueue : s.setOk.hostQueue = s.hostQueue := rfl
@[simp] theorem State.setOk_txReplies : s.setOk.txReplies = s.txReplies := rfl
@[simp] theorem State.setOk_txDraws : s.setOk.txDraws = s.txDraws := rfl
@[simp] theorem State.setOk_responses : s.setOk.responses = s.responses := rfl
@[simp] theorem State.setOk_frames : s.setOk.frames = s.frames := rfl
@[simp] theorem State.takeReply_config (t : Byte) : (s.takeReply t).config = s.config := by unfold State.takeReply; split <;> rfl
@[simp] theorem State.takeReply_fgColor (t : Byte) : (s.takeReply t).fgColor = s.fgColor := by unfold State.takeReply; split <;> rfl
@[simp] theorem State.takeReply_bgColor (t : Byte) : (s.takeReply t).bgColor = s.bgColor := by unfold State.takeReply; split <;> rfl
@[simp] theorem State.takeReply_text0 (t : Byte) : (s.takeReply t).text0 = s.text0 := by unfold State.takeReply; split <;> rfl
@[simp] theorem State.takeReply_text1 (t : Byte) : (s.takeReply t).text1 = s.text1 := by unfold State.takeReply; split <;> rfl
@[simp] theorem State.takeReply_text2 (t : Byte) : (s.takeReply t).text2 = s.text2 := by unfold State.takeReply; split <;> rfl
@[simp] theorem State.takeReply_phase (t : Byte) : (s.takeReply t).phase = s.phase := by unfold State.takeReply; split <;> rfl
@[simp] theorem State.takeReply_fb (t : Byte) : (s.takeReply t).fb = s.fb := by unfold State.takeReply; split <;> rfl
@[simp] theorem State.takeReply_mask (t : Byte) : (s.takeReply t).mask = s.mask := by unfold State.takeReply; split <;> rfl
@[simp] theorem State.takeReply_hostQueue (t : Byte) : (s.takeReply t).hostQueue = s.hostQueue := by unfold State.takeReply; split <;> rfl
@[simp] theorem State.takeReply_txReplies (t : Byte) : (s.takeReply t).txReplies = s.txReplies := by unfold State.takeReply; split <;> rfl
@[simp] theorem State.takeReply_txDraws (t : Byte) : (s.takeReply t).txDraws = s.txDraws := by unfold State.takeReply; split <;> rfl
@[simp] theorem State.takeReply_responses (t : Byte) : (s.takeReply t).responses = s.responses := by unfold State.takeReply; split <;> rfl
@[simp] theorem State.takeReply_frames (t : Byte) : (s.takeReply t).frames = s.frames := by unfold State.takeReply; split <;> rfl

/-- The code after a reply: OK for 0, ERR_TX otherwise (45_display R105). -/
@[simp] theorem State.takeReply_code (t : Byte) : (s.takeReply t).code = if t = 0 then 0 else 4 := by
  unfold State.takeReply; split <;> rfl

/-- TX_CODE after a reply is the reply itself (45_display R105). -/
@[simp] theorem State.takeReply_txCode (t : Byte) : (s.takeReply t).txCode = t := by
  unfold State.takeReply; split <;> simp_all

/-! ### writeReg: it leaves everything but its register -/

@[simp] theorem State.writeReg_config (reg : HostReg) (d : Word) : (s.writeReg reg d).config = s.config := by cases reg <;> rfl
@[simp] theorem State.writeReg_code (reg : HostReg) (d : Word) : (s.writeReg reg d).code = s.code := by cases reg <;> rfl
@[simp] theorem State.writeReg_txCode (reg : HostReg) (d : Word) : (s.writeReg reg d).txCode = s.txCode := by cases reg <;> rfl
@[simp] theorem State.writeReg_phase (reg : HostReg) (d : Word) : (s.writeReg reg d).phase = s.phase := by cases reg <;> rfl
@[simp] theorem State.writeReg_fb (reg : HostReg) (d : Word) : (s.writeReg reg d).fb = s.fb := by cases reg <;> rfl
@[simp] theorem State.writeReg_mask (reg : HostReg) (d : Word) : (s.writeReg reg d).mask = s.mask := by cases reg <;> rfl
@[simp] theorem State.writeReg_hostQueue (reg : HostReg) (d : Word) : (s.writeReg reg d).hostQueue = s.hostQueue := by cases reg <;> rfl
@[simp] theorem State.writeReg_txReplies (reg : HostReg) (d : Word) : (s.writeReg reg d).txReplies = s.txReplies := by cases reg <;> rfl
@[simp] theorem State.writeReg_txDraws (reg : HostReg) (d : Word) : (s.writeReg reg d).txDraws = s.txDraws := by cases reg <;> rfl
@[simp] theorem State.writeReg_responses (reg : HostReg) (d : Word) : (s.writeReg reg d).responses = s.responses := by cases reg <;> rfl
@[simp] theorem State.writeReg_frames (reg : HostReg) (d : Word) : (s.writeReg reg d).frames = s.frames := by cases reg <;> rfl
@[simp] theorem State.writeReg_fgColor (reg : HostReg) (d : Word) :
    (s.writeReg reg d).fgColor = if reg = .fgColor then d else s.fgColor := by cases reg <;> rfl
@[simp] theorem State.writeReg_bgColor (reg : HostReg) (d : Word) :
    (s.writeReg reg d).bgColor = if reg = .bgColor then d else s.bgColor := by cases reg <;> rfl
@[simp] theorem State.writeReg_text0 (reg : HostReg) (d : Word) :
    (s.writeReg reg d).text0 = if reg = .text0 then d else s.text0 := by cases reg <;> rfl
@[simp] theorem State.writeReg_text1 (reg : HostReg) (d : Word) :
    (s.writeReg reg d).text1 = if reg = .text1 then d else s.text1 := by cases reg <;> rfl
@[simp] theorem State.writeReg_text2 (reg : HostReg) (d : Word) :
    (s.writeReg reg d).text2 = if reg = .text2 then d else s.text2 := by cases reg <;> rfl

/-! ### statusWord is a function of three fields -/

theorem State.statusWord_eq (s : State) : s.statusWord = s.txCode ++ 0#3 ++ s.phase.bit ++ s.code := rfl

end Sys2Proof.Machine
end

