-- ==== Sys2Proof/Laws/Updater.lean ====
section
/-! SUPPORT. The remap and the frame of a flush (45_display R102, R106, R107). -/

namespace Sys2Proof.Machine

/-- A physical index is in 0..251 (45_display R102). -/
theorem phys_lt (d : Dir) (s c : Nat) (hs : s < 7) (hc : c < 36) : phys d s c < 252 := by
  cases d <;> simp only [phys] <;> omega

/-- Two window cells with one physical index are one cell, for any directions of their strips (45_display R107). -/
theorem phys_inj (d : Nat → Dir) (s c s' c' : Nat) (hc : c < 36) (hc' : c' < 36)
    (h : phys (d s) s c = phys (d s') s' c') : s = s' ∧ c = c' := by
  have hs : s = s' := by
    cases h1 : d s <;> cases h2 : d s' <;> simp only [phys, h1, h2] at h <;> omega
  subst hs
  refine ⟨rfl, ?_⟩
  cases h1 : d s <;> simp only [phys, h1] at h <;> omega

theorem frameRow_read (c : Config) (fb : FrameBuffer) (s : Nat) (out : Frame) (s' c' : Nat) (hs : s' < 7)
    (hc : c' < 36) :
    frameRead (forRange 36 (fun col out => frameWrite out (phys (dirOf c s) s col) (fbRead fb s col)) out)
        (phys (dirOf c s') s' c') =
      if s' = s then fbRead fb s' c' else frameRead out (phys (dirOf c s') s' c') := by
  have key : ∀ n, n ≤ 36 →
      frameRead (forRange n (fun col out => frameWrite out (phys (dirOf c s) s col) (fbRead fb s col)) out)
        (phys (dirOf c s') s' c') =
      if s' = s ∧ c' < n then fbRead fb s' c' else frameRead out (phys (dirOf c s') s' c') := by
    intro n hn
    induction n with
    | zero => simp [forRange]
    | succ n ih =>
      rw [forRange, frameRead_frameWrite, ih (by omega)]
      by_cases h : phys (dirOf c s') s' c' = phys (dirOf c s) s n
      · obtain ⟨rfl, rfl⟩ := phys_inj (dirOf c) s' c' s n hc (by omega) h
        simp [phys_lt _ _ _ hs hc]
      · rw [if_neg (by tauto)]
        refine if_congr ?_ rfl rfl
        constructor
        · rintro ⟨rfl, h2⟩; exact ⟨rfl, by omega⟩
        · rintro ⟨rfl, h2⟩
          refine ⟨rfl, ?_⟩
          rcases Nat.lt_succ_iff_lt_or_eq.mp h2 with h3 | rfl
          · exact h3
          · exact absurd rfl h
  rw [key _ (Nat.le_refl _)]
  simp [hc]

/-- Every window cell stands in the frame at its physical index (45_display R106). -/
theorem frameOf_read (c : Config) (fb : FrameBuffer) (s col : Nat) (hs : s < 7) (hc : col < 36) :
    frameRead (frameOf c fb) (phys (dirOf c s) s col) = fbRead fb s col := by
  have key : ∀ n, n ≤ 7 →
      frameRead (forRange n (fun s => forRange 36
        (fun col out => frameWrite out (phys (dirOf c s) s col) (fbRead fb s col))) (Vector.replicate 252 Pixel.black))
        (phys (dirOf c s) s col) =
      if s < n then fbRead fb s col
      else frameRead (Vector.replicate 252 Pixel.black) (phys (dirOf c s) s col) := by
    intro n hn
    induction n with
    | zero => simp [forRange]
    | succ n ih =>
      rw [forRange, frameRow_read _ _ _ _ _ _ hs hc, ih (by omega)]
      by_cases h : s = n
      · subst h; simp
      · have : (s < n + 1) = (s < n) := by simp only [eq_iff_iff]; omega
        simp [h, this]
  rw [frameOf, key _ (Nat.le_refl _)]
  simp [hs]

/-- Every physical index is the index of a window cell (45_display R107). -/
theorem phys_surj (d : Nat → Dir) (k : Nat) (hk : k < 252) :
    ∃ s c, s < 7 ∧ c < 36 ∧ phys (d s) s c = k := by
  refine ⟨k / 36, match d (k / 36) with | .asc => k % 36 | .desc => 35 - k % 36, by omega, ?_, ?_⟩
  · cases d (k / 36) <;> simp only <;> omega
  · cases h : d (k / 36) <;> simp only [phys] <;> omega

/-- The frame depends on the window of the Frame Buffer only (45_display R101). -/
theorem frameOf_congr (c : Config) (fb fb' : FrameBuffer)
    (h : ∀ s col, s < 7 → col < 36 → fbRead fb s col = fbRead fb' s col) : frameOf c fb = frameOf c fb' := by
  refine frame_eq_of_read fun k hk => ?_
  obtain ⟨s, col, hs, hc, rfl⟩ := phys_surj (dirOf c) k hk
  rw [frameOf_read _ _ _ _ hs hc, frameOf_read _ _ _ _ hs hc, h s col hs hc]

end Sys2Proof.Machine
end

