-- ==== Sys2Proof/Laws/Frames.lean ====
section
/-! SUPPORT. What paints, fills, passes and flushes do to each field, and the one thing a flush can do. -/

namespace Sys2Proof.Machine

/-! ### A paint writes FB and MASK only (42_glyph R83) -/

@[simp] theorem paintGlyph_config (sym : Byte) (p : Nat) (fg : Pixel) (s : State) :
    (paintGlyph sym p fg s).config = s.config := State.setCanvas_config s _
@[simp] theorem paintGlyph_fgColor (sym : Byte) (p : Nat) (fg : Pixel) (s : State) :
    (paintGlyph sym p fg s).fgColor = s.fgColor := State.setCanvas_fgColor s _
@[simp] theorem paintGlyph_bgColor (sym : Byte) (p : Nat) (fg : Pixel) (s : State) :
    (paintGlyph sym p fg s).bgColor = s.bgColor := State.setCanvas_bgColor s _
@[simp] theorem paintGlyph_text0 (sym : Byte) (p : Nat) (fg : Pixel) (s : State) :
    (paintGlyph sym p fg s).text0 = s.text0 := State.setCanvas_text0 s _
@[simp] theorem paintGlyph_text1 (sym : Byte) (p : Nat) (fg : Pixel) (s : State) :
    (paintGlyph sym p fg s).text1 = s.text1 := State.setCanvas_text1 s _
@[simp] theorem paintGlyph_text2 (sym : Byte) (p : Nat) (fg : Pixel) (s : State) :
    (paintGlyph sym p fg s).text2 = s.text2 := State.setCanvas_text2 s _
@[simp] theorem paintGlyph_code (sym : Byte) (p : Nat) (fg : Pixel) (s : State) :
    (paintGlyph sym p fg s).code = s.code := State.setCanvas_code s _
@[simp] theorem paintGlyph_txCode (sym : Byte) (p : Nat) (fg : Pixel) (s : State) :
    (paintGlyph sym p fg s).txCode = s.txCode := State.setCanvas_txCode s _
@[simp] theorem paintGlyph_phase (sym : Byte) (p : Nat) (fg : Pixel) (s : State) :
    (paintGlyph sym p fg s).phase = s.phase := State.setCanvas_phase s _
@[simp] theorem paintGlyph_fb (sym : Byte) (p : Nat) (fg : Pixel) (s : State) :
    (paintGlyph sym p fg s).fb = (paintCanvas s.config sym p fg s.canvas).fb := State.setCanvas_fb s _
@[simp] theorem paintGlyph_mask (sym : Byte) (p : Nat) (fg : Pixel) (s : State) :
    (paintGlyph sym p fg s).mask = (paintCanvas s.config sym p fg s.canvas).mask := State.setCanvas_mask s _
@[simp] theorem paintGlyph_hostQueue (sym : Byte) (p : Nat) (fg : Pixel) (s : State) :
    (paintGlyph sym p fg s).hostQueue = s.hostQueue := State.setCanvas_hostQueue s _
@[simp] theorem paintGlyph_txReplies (sym : Byte) (p : Nat) (fg : Pixel) (s : State) :
    (paintGlyph sym p fg s).txReplies = s.txReplies := State.setCanvas_txReplies s _
@[simp] theorem paintGlyph_txDraws (sym : Byte) (p : Nat) (fg : Pixel) (s : State) :
    (paintGlyph sym p fg s).txDraws = s.txDraws := State.setCanvas_txDraws s _
@[simp] theorem paintGlyph_responses (sym : Byte) (p : Nat) (fg : Pixel) (s : State) :
    (paintGlyph sym p fg s).responses = s.responses := State.setCanvas_responses s _
@[simp] theorem paintGlyph_frames (sym : Byte) (p : Nat) (fg : Pixel) (s : State) :
    (paintGlyph sym p fg s).frames = s.frames := State.setCanvas_frames s _

/-! ### A fill writes FB only (43_fill R91) -/

@[simp] theorem fillBackground_config (bg : Pixel) (s : State) : (fillBackground bg s).config = s.config :=
  State.setFb_config s _
@[simp] theorem fillBackground_fgColor (bg : Pixel) (s : State) : (fillBackground bg s).fgColor = s.fgColor :=
  State.setFb_fgColor s _
@[simp] theorem fillBackground_bgColor (bg : Pixel) (s : State) : (fillBackground bg s).bgColor = s.bgColor :=
  State.setFb_bgColor s _
@[simp] theorem fillBackground_text0 (bg : Pixel) (s : State) : (fillBackground bg s).text0 = s.text0 :=
  State.setFb_text0 s _
@[simp] theorem fillBackground_text1 (bg : Pixel) (s : State) : (fillBackground bg s).text1 = s.text1 :=
  State.setFb_text1 s _
@[simp] theorem fillBackground_text2 (bg : Pixel) (s : State) : (fillBackground bg s).text2 = s.text2 :=
  State.setFb_text2 s _
@[simp] theorem fillBackground_code (bg : Pixel) (s : State) : (fillBackground bg s).code = s.code :=
  State.setFb_code s _
@[simp] theorem fillBackground_txCode (bg : Pixel) (s : State) : (fillBackground bg s).txCode = s.txCode :=
  State.setFb_txCode s _
@[simp] theorem fillBackground_phase (bg : Pixel) (s : State) : (fillBackground bg s).phase = s.phase :=
  State.setFb_phase s _
@[simp] theorem fillBackground_fb (bg : Pixel) (s : State) : (fillBackground bg s).fb = fillGrid s.mask bg s.fb :=
  State.setFb_fb s _
@[simp] theorem fillBackground_mask (bg : Pixel) (s : State) : (fillBackground bg s).mask = s.mask :=
  State.setFb_mask s _
@[simp] theorem fillBackground_hostQueue (bg : Pixel) (s : State) : (fillBackground bg s).hostQueue = s.hostQueue :=
  State.setFb_hostQueue s _
@[simp] theorem fillBackground_txReplies (bg : Pixel) (s : State) : (fillBackground bg s).txReplies = s.txReplies :=
  State.setFb_txReplies s _
@[simp] theorem fillBackground_txDraws (bg : Pixel) (s : State) : (fillBackground bg s).txDraws = s.txDraws :=
  State.setFb_txDraws s _
@[simp] theorem fillBackground_responses (bg : Pixel) (s : State) : (fillBackground bg s).responses = s.responses :=
  State.setFb_responses s _
@[simp] theorem fillBackground_frames (bg : Pixel) (s : State) : (fillBackground bg s).frames = s.frames :=
  State.setFb_frames s _

/-! ### The paint loop writes FB and MASK only (44_text R96) -/

@[simp] theorem composeText_config (codes : List Byte) (fg : Pixel) (s : State) :
    (composeText codes fg s).config = s.config := State.setCanvas_config s _
@[simp] theorem composeText_fgColor (codes : List Byte) (fg : Pixel) (s : State) :
    (composeText codes fg s).fgColor = s.fgColor := State.setCanvas_fgColor s _
@[simp] theorem composeText_bgColor (codes : List Byte) (fg : Pixel) (s : State) :
    (composeText codes fg s).bgColor = s.bgColor := State.setCanvas_bgColor s _
@[simp] theorem composeText_text0 (codes : List Byte) (fg : Pixel) (s : State) :
    (composeText codes fg s).text0 = s.text0 := State.setCanvas_text0 s _
@[simp] theorem composeText_text1 (codes : List Byte) (fg : Pixel) (s : State) :
    (composeText codes fg s).text1 = s.text1 := State.setCanvas_text1 s _
@[simp] theorem composeText_text2 (codes : List Byte) (fg : Pixel) (s : State) :
    (composeText codes fg s).text2 = s.text2 := State.setCanvas_text2 s _
@[simp] theorem composeText_code (codes : List Byte) (fg : Pixel) (s : State) :
    (composeText codes fg s).code = s.code := State.setCanvas_code s _
@[simp] theorem composeText_txCode (codes : List Byte) (fg : Pixel) (s : State) :
    (composeText codes fg s).txCode = s.txCode := State.setCanvas_txCode s _
@[simp] theorem composeText_phase (codes : List Byte) (fg : Pixel) (s : State) :
    (composeText codes fg s).phase = s.phase := State.setCanvas_phase s _
@[simp] theorem composeText_fb (codes : List Byte) (fg : Pixel) (s : State) :
    (composeText codes fg s).fb = (composeFrom s.config fg 1 codes s.canvas).fb := State.setCanvas_fb s _
@[simp] theorem composeText_mask (codes : List Byte) (fg : Pixel) (s : State) :
    (composeText codes fg s).mask = (composeFrom s.config fg 1 codes s.canvas).mask := State.setCanvas_mask s _
@[simp] theorem composeText_hostQueue (codes : List Byte) (fg : Pixel) (s : State) :
    (composeText codes fg s).hostQueue = s.hostQueue := State.setCanvas_hostQueue s _
@[simp] theorem composeText_txReplies (codes : List Byte) (fg : Pixel) (s : State) :
    (composeText codes fg s).txReplies = s.txReplies := State.setCanvas_txReplies s _
@[simp] theorem composeText_txDraws (codes : List Byte) (fg : Pixel) (s : State) :
    (composeText codes fg s).txDraws = s.txDraws := State.setCanvas_txDraws s _
@[simp] theorem composeText_responses (codes : List Byte) (fg : Pixel) (s : State) :
    (composeText codes fg s).responses = s.responses := State.setCanvas_responses s _
@[simp] theorem composeText_frames (codes : List Byte) (fg : Pixel) (s : State) :
    (composeText codes fg s).frames = s.frames := State.setCanvas_frames s _

/-! ### Passes and canvases -/

@[simp] theorem State.canvas_fb (s : State) : s.canvas.fb = s.fb := rfl
@[simp] theorem State.canvas_mask (s : State) : s.canvas.mask = s.mask := rfl

@[simp] theorem newPass_config (s : State) : (newPass s).config = s.config := rfl
@[simp] theorem newPass_fgColor (s : State) : (newPass s).fgColor = s.fgColor := rfl
@[simp] theorem newPass_bgColor (s : State) : (newPass s).bgColor = s.bgColor := rfl
@[simp] theorem newPass_text0 (s : State) : (newPass s).text0 = s.text0 := rfl
@[simp] theorem newPass_text1 (s : State) : (newPass s).text1 = s.text1 := rfl
@[simp] theorem newPass_text2 (s : State) : (newPass s).text2 = s.text2 := rfl
@[simp] theorem newPass_code (s : State) : (newPass s).code = s.code := rfl
@[simp] theorem newPass_txCode (s : State) : (newPass s).txCode = s.txCode := rfl
@[simp] theorem newPass_phase (s : State) : (newPass s).phase = .composing := rfl
@[simp] theorem newPass_fb (s : State) : (newPass s).fb = s.fb := rfl
@[simp] theorem newPass_mask (s : State) : (newPass s).mask = maskClear := rfl
@[simp] theorem newPass_hostQueue (s : State) : (newPass s).hostQueue = s.hostQueue := rfl
@[simp] theorem newPass_txReplies (s : State) : (newPass s).txReplies = s.txReplies := rfl
@[simp] theorem newPass_txDraws (s : State) : (newPass s).txDraws = s.txDraws := rfl
@[simp] theorem newPass_responses (s : State) : (newPass s).responses = s.responses := rfl
@[simp] theorem newPass_frames (s : State) : (newPass s).frames = s.frames := rfl

@[simp] theorem startPass_config (s : State) : (startPass s).config = s.config := by unfold startPass; split <;> rfl
@[simp] theorem startPass_fgColor (s : State) : (startPass s).fgColor = s.fgColor := by unfold startPass; split <;> rfl
@[simp] theorem startPass_bgColor (s : State) : (startPass s).bgColor = s.bgColor := by unfold startPass; split <;> rfl
@[simp] theorem startPass_text0 (s : State) : (startPass s).text0 = s.text0 := by unfold startPass; split <;> rfl
@[simp] theorem startPass_text1 (s : State) : (startPass s).text1 = s.text1 := by unfold startPass; split <;> rfl
@[simp] theorem startPass_text2 (s : State) : (startPass s).text2 = s.text2 := by unfold startPass; split <;> rfl
@[simp] theorem startPass_code (s : State) : (startPass s).code = s.code := by unfold startPass; split <;> rfl
@[simp] theorem startPass_txCode (s : State) : (startPass s).txCode = s.txCode := by unfold startPass; split <;> rfl
@[simp] theorem startPass_phase (s : State) : (startPass s).phase = .composing := by
  unfold startPass; split <;> simp_all
@[simp] theorem startPass_fb (s : State) : (startPass s).fb = s.fb := by unfold startPass; split <;> rfl
/-- In IDLE the Mask is cleared, in COMPOSING it is kept (42_glyph R82). -/
theorem startPass_mask (s : State) : (startPass s).mask = if s.phase = .idle then maskClear else s.mask := by
  unfold startPass; split <;> simp_all
@[simp] theorem startPass_hostQueue (s : State) : (startPass s).hostQueue = s.hostQueue := by unfold startPass; split <;> rfl
@[simp] theorem startPass_txReplies (s : State) : (startPass s).txReplies = s.txReplies := by unfold startPass; split <;> rfl
@[simp] theorem startPass_txDraws (s : State) : (startPass s).txDraws = s.txDraws := by unfold startPass; split <;> rfl
@[simp] theorem startPass_responses (s : State) : (startPass s).responses = s.responses := by unfold startPass; split <;> rfl
@[simp] theorem startPass_frames (s : State) : (startPass s).frames = s.frames := by unfold startPass; split <;> rfl

/-- Everything a flush can do: with a reply it emits the window and reports the reply, else it hangs (45_display R106; 70_reset
R158). -/
theorem flushFrame_next {s s' : State} (h : flushFrame s = .next s') :
    ∃ a, s.nextAnswer = .reply a ∧ s' = ((s.emit (frameOf s.config s.fb)).takeReply a).respondStatus := by
  unfold flushFrame at h
  split at h
  · next a ha => exact ⟨a, ha, by simpa using h.symm⟩
  · simp at h

/-- A flush completes when the transmitter replies (45_display R106). -/
theorem flushFrame_of_reply {s : State} {a : Byte} (h : s.nextAnswer = .reply a) :
    flushFrame s = .next ((s.emit (frameOf s.config s.fb)).takeReply a).respondStatus := by
  unfold flushFrame; rw [h]

/-- Two states with the same fields are the same state. -/
theorem State.ext_fields {s t : State} (h0 : s.config = t.config) (h1 : s.fgColor = t.fgColor) (h2 : s.bgColor = t.bgColor)
    (h3 : s.text0 = t.text0) (h4 : s.text1 = t.text1) (h5 : s.text2 = t.text2) (h6 : s.code = t.code)
    (h7 : s.txCode = t.txCode) (h8 : s.phase = t.phase) (h9 : s.fb = t.fb) (h10 : s.mask = t.mask)
    (h11 : s.hostQueue = t.hostQueue) (h12 : s.txReplies = t.txReplies) (h13 : s.txDraws = t.txDraws)
    (h14 : s.responses = t.responses) (h15 : s.frames = t.frames) : s = t := by
  cases s; cases t; simp_all

/-- A Mask-true cell lies inside the Mask. -/
theorem col_lt_of_maskRead {m : MaskGrid} {r c : Nat} (h : maskRead m r c = true) : r < 7 ∧ c < 36 := by
  unfold maskRead at h
  split at h
  · assumption
  · simp at h

end Sys2Proof.Machine
end

