-- ==== Sys2Proof/Laws/Exec.lean ====
section
/-! SUPPORT. Once and for all: everything an instruction can do when it answers a next state, and everything a step can do. -/

namespace Sys2Proof.Machine

/-- A position is valid when it is 1 to 6 (42_glyph R84). -/
theorem validPos_iff (pos : BitVec 4) : validPos pos = true ↔ 1 ≤ pos.toNat ∧ pos.toNat ≤ 6 := by simp [validPos]

/-- The frame of the state a command flushes, handed over and answered (45_display R106). -/
def flushed (a : Byte) (s : State) : State := ((s.emit (frameOf s.config s.fb)).takeReply a).respondStatus

/-- A rejected command (60_exceptions R134). -/
def rejected (e : StatusCode) (s : State) : State := (s.setStatus e.bits 0).respondStatus

/-- The composed picture of DISPLAY_SYMBOL before its flush (46_render R110). -/
def symbolPicture (sym : Byte) (pos : BitVec 4) (s : State) : State :=
  (fillBackground s.background (paintGlyph sym pos.toNat s.foreground (newPass s))).setPhase .idle

/-- The composed picture of DISPLAY_TEXT before its flush (46_render R111). -/
def textPicture (s : State) : State :=
  (fillBackground s.background (composeText s.textCodes s.foreground (newPass s))).setPhase .idle

/-- The reserved instructions (30_encoding R55). -/
def reservedInstrs : List Instr :=
  [.reservedOp0, .reservedOp6, .reservedOp7, .reservedOp8, .reservedOp9, .reservedOp10, .reservedOp11, .reservedOp12,
    .reservedOp13, .reservedOp14, .reservedOp15]

/-- What an instruction does to `s` when it answers a next state. -/
inductive Effect (s : State) : Instr → State → Prop where
  | read (reg : HostReg) : Effect s (.rd reg) (s.respond (s.readReg reg))
  | writeStatus (d : Word) : Effect s (.wrStatus d) (s.respond 0)
  | writeFgColor (d : Word) : Effect s (.wrFgColor d) ((s.writeReg .fgColor d).respond 0)
  | writeBgColor (d : Word) : Effect s (.wrBgColor d) ((s.writeReg .bgColor d).respond 0)
  | writeText0 (d : Word) : Effect s (.wrText0 d) ((s.writeReg .text0 d).respond 0)
  | writeText1 (d : Word) : Effect s (.wrText1 d) ((s.writeReg .text1 d).respond 0)
  | writeText2 (d : Word) : Effect s (.wrText2 d) ((s.writeReg .text2 d).respond 0)
  | writeR7 (d : Word) : Effect s (.wrR7 d) (s.respond 0)
  | reserved (i : Instr) (h : i ∈ reservedInstrs) : Effect s i (rejected .errOpcode s)
  | paintRejected (sym : Byte) (pos : BitVec 4) (h : validPos pos = false) :
      Effect s (.paint sym pos) (rejected .errPosition s)
  | symbolRejected (sym : Byte) (pos : BitVec 4) (h : validPos pos = false) :
      Effect s (.displaySymbol sym pos) (rejected .errPosition s)
  | flushRejected (h : s.phase = .composing) : Effect s .flush (rejected .errPhase s)
  | paint (sym : Byte) (pos : BitVec 4) (h : validPos pos = true) :
      Effect s (.paint sym pos) (paintGlyph sym pos.toNat s.foreground (startPass s)).setOk.respondStatus
  | fill : Effect s .fill ((fillBackground s.background s).setPhase .idle).setOk.respondStatus
  | flush (a : Byte) (h : s.phase = .idle) (ha : s.nextAnswer = .reply a) : Effect s .flush (flushed a s)
  | symbol (sym : Byte) (pos : BitVec 4) (a : Byte) (h : validPos pos = true) (ha : s.nextAnswer = .reply a) :
      Effect s (.displaySymbol sym pos) (flushed a (symbolPicture sym pos s))
  | text (a : Byte) (ha : s.nextAnswer = .reply a) : Effect s .displayText (flushed a (textPicture s))

theorem nextAnswer_symbolPicture (sym : Byte) (pos : BitVec 4) (s : State) :
    (symbolPicture sym pos s).nextAnswer = s.nextAnswer := by
  simp [State.nextAnswer, symbolPicture]

theorem nextAnswer_textPicture (s : State) : (textPicture s).nextAnswer = s.nextAnswer := by
  simp [State.nextAnswer, textPicture]

theorem raiseErr_next {e : StatusCode} {s s' : State} (h : raiseErr e s = .next s') : s' = rejected e s := by
  unfold raiseErr at h
  simpa [rejected] using h.symm

/-- The inversion of `exec`: one of the cases of `Effect` holds. -/
theorem exec_effect {i : Instr} {s s' : State} (h : exec i s = .next s') : Effect s i s' := by
  cases i <;> simp only [exec] at h
  case rd reg => cases h; exact .read reg
  case wrStatus d => cases h; exact .writeStatus d
  case wrFgColor d => cases h; exact .writeFgColor d
  case wrBgColor d => cases h; exact .writeBgColor d
  case wrText0 d => cases h; exact .writeText0 d
  case wrText1 d => cases h; exact .writeText1 d
  case wrText2 d => cases h; exact .writeText2 d
  case wrR7 d => cases h; exact .writeR7 d
  case fill => cases h; exact .fill
  case paint sym pos =>
    unfold execPaint at h
    split at h
    · next hv => cases h; exact .paint sym pos hv
    · next hv => rw [raiseErr_next h]; exact .paintRejected sym pos (by simpa using hv)
  case flush =>
    unfold execFlush at h
    split at h
    · next hp => rw [raiseErr_next h]; exact .flushRejected hp
    · next hp => obtain ⟨a, ha, rfl⟩ := flushFrame_next h; exact .flush a hp ha
  case displaySymbol sym pos =>
    unfold execDisplaySymbol at h
    split at h
    · next hv =>
      obtain ⟨a, ha, rfl⟩ := flushFrame_next h
      exact .symbol sym pos a hv ((nextAnswer_symbolPicture sym pos s).symm.trans ha)
    · next hv => rw [raiseErr_next h]; exact .symbolRejected sym pos (by simpa using hv)
  case displayText =>
    obtain ⟨a, ha, rfl⟩ := flushFrame_next h
    exact .text a ((nextAnswer_textPicture s).symm.trans ha)
  all_goals rw [raiseErr_next h]; exact .reserved _ (by simp [reservedInstrs])

/-- Everything a step can do when it answers a next state: wait, run one transaction, or reset. -/
theorem step_cases {s s' : State} (h : step s = .next s') :
    s.config.valid = true ∧
      ((s.hostQueue = [] ∧ s' = s) ∨
        (∃ t i rest, s.hostQueue = .transaction t :: rest ∧ decode t = i ∧ Effect { s with hostQueue := rest } i s') ∨
        (∃ rest, s.hostQueue = .reset :: rest ∧ s' = State.applyReset { s with hostQueue := rest })) := by
  unfold step present at h
  cases hv : s.config.valid
  · simp [hv] at h
  refine ⟨rfl, ?_⟩
  simp only [hv, if_true] at h
  match hq : s.hostQueue with
  | [] => rw [hq] at h; cases h; exact .inl ⟨rfl, rfl⟩
  | .transaction t :: rest => rw [hq] at h; exact .inr (.inl ⟨t, _, rest, rfl, rfl, exec_effect h⟩)
  | .reset :: rest => rw [hq] at h; cases h; exact .inr (.inr ⟨rest, rfl, rfl⟩)
  | .overlapping t u :: rest => simp [hq] at h
  | .resetDuring t :: rest => simp [hq] at h

end Sys2Proof.Machine
end

