-- ==== Sys2Proof/Laws/PerInstr.lean ====
section
/-! SUPPORT. For each instruction: its encoding is selected by a row of the opcode map that bears its mnemonic (30_encoding
R53). -/

namespace Sys2Proof.Laws.EncodesUnderItsRow

/-- Some row of the map has the instruction's mnemonic and selects its encoding. -/
def Statement (i : Instr) : Prop := ∃ m k : Transaction, (i.mnemonic, m, k) ∈ opcodeRows ∧ encode i &&& k = m

/-- A word whose bits 19:16 are known, under the mask 0xF0000. -/
theorem mask_high4 (reg : HostReg) (data : Word) : encodeWrite reg data &&& 0xF0000 = encodeWrite reg 0 := by
  apply BitVec.eq_of_getLsbD_eq
  intro k hk
  rw [BitVec.getLsbD_and, getLsbD_encodeWrite, getLsbD_encodeWrite]
  by_cases h : k < 16
  · have : (0xF0000 : Transaction).getLsbD k = false := by
      have : ∀ k : Fin 16, (0xF0000 : Transaction).getLsbD k = false := by decide
      exact this ⟨k, h⟩
    rw [this]; simp [h]
  · have : (0xF0000 : Transaction).getLsbD k = true := by
      have : ∀ k : Fin 20, 16 ≤ k.val → (0xF0000 : Transaction).getLsbD k = true := by decide
      exact this ⟨k, hk⟩ (by simpa using Nat.le_of_not_lt h)
    rw [this]; simp [h]

/-- A command word whose OP is known, under the mask 0xFF000. -/
theorem mask_high8 (op pos : BitVec 4) (sym : Byte) : encodeCommand op pos sym &&& 0xFF000 = encodeCommand op 0 0 := by
  apply BitVec.eq_of_getLsbD_eq
  intro k hk
  rw [BitVec.getLsbD_and, encodeCommand, encodeCommand, getLsbD_encodeWrite, getLsbD_encodeWrite, getLsbD_commandWord,
    getLsbD_commandWord]
  by_cases h : k < 12
  · have : (0xFF000 : Transaction).getLsbD k = false := by
      have : ∀ k : Fin 12, (0xFF000 : Transaction).getLsbD k = false := by decide
      exact this ⟨k, h⟩
    have h16 : k < 16 := by omega
    rw [this]; by_cases h8 : k < 8 <;> simp [h, h8, h16]
  · have : (0xFF000 : Transaction).getLsbD k = true := by
      have : ∀ k : Fin 20, 12 ≤ k.val → (0xFF000 : Transaction).getLsbD k = true := by decide
      exact this ⟨k, hk⟩ (by simpa using Nat.le_of_not_lt h)
    rw [this]; simp [h, show ¬ k < 8 by omega]

theorem rd (reg : HostReg) : Statement (.rd reg) := ⟨0x00000, 0x80000, by simp [Instr.mnemonic, opcodeRows], by cases reg <;> decide⟩
theorem displaySymbol (sym : Byte) (pos : BitVec 4) : Statement (.displaySymbol sym pos) :=
  ⟨0x81000, 0xFF000, by simp [Instr.mnemonic, opcodeRows], (mask_high8 1 pos sym).trans (by decide)⟩
theorem displayText : Statement .displayText := ⟨0x82000, 0xFF000, by decide, by decide⟩
theorem paint (sym : Byte) (pos : BitVec 4) : Statement (.paint sym pos) :=
  ⟨0x83000, 0xFF000, by simp [Instr.mnemonic, opcodeRows], (mask_high8 3 pos sym).trans (by decide)⟩
theorem fill : Statement .fill := ⟨0x84000, 0xFF000, by decide, by decide⟩
theorem flush : Statement .flush := ⟨0x85000, 0xFF000, by decide, by decide⟩
theorem reservedOp0 : Statement .reservedOp0 := ⟨0x80000, 0xFF000, by decide, by decide⟩
theorem reservedOp6 : Statement .reservedOp6 := ⟨0x86000, 0xFF000, by decide, by decide⟩
theorem reservedOp7 : Statement .reservedOp7 := ⟨0x87000, 0xFF000, by decide, by decide⟩
theorem reservedOp8 : Statement .reservedOp8 := ⟨0x88000, 0xFF000, by decide, by decide⟩
theorem reservedOp9 : Statement .reservedOp9 := ⟨0x89000, 0xFF000, by decide, by decide⟩
theorem reservedOp10 : Statement .reservedOp10 := ⟨0x8A000, 0xFF000, by decide, by decide⟩
theorem reservedOp11 : Statement .reservedOp11 := ⟨0x8B000, 0xFF000, by decide, by decide⟩
theorem reservedOp12 : Statement .reservedOp12 := ⟨0x8C000, 0xFF000, by decide, by decide⟩
theorem reservedOp13 : Statement .reservedOp13 := ⟨0x8D000, 0xFF000, by decide, by decide⟩
theorem reservedOp14 : Statement .reservedOp14 := ⟨0x8E000, 0xFF000, by decide, by decide⟩
theorem reservedOp15 : Statement .reservedOp15 := ⟨0x8F000, 0xFF000, by decide, by decide⟩
theorem wrStatus (data : Word) : Statement (.wrStatus data) :=
  ⟨0x90000, 0xF0000, by simp [Instr.mnemonic, opcodeRows], (mask_high4 .status data).trans (by decide)⟩
theorem wrFgColor (data : Word) : Statement (.wrFgColor data) :=
  ⟨0xA0000, 0xF0000, by simp [Instr.mnemonic, opcodeRows], (mask_high4 .fgColor data).trans (by decide)⟩
theorem wrBgColor (data : Word) : Statement (.wrBgColor data) :=
  ⟨0xB0000, 0xF0000, by simp [Instr.mnemonic, opcodeRows], (mask_high4 .bgColor data).trans (by decide)⟩
theorem wrText0 (data : Word) : Statement (.wrText0 data) :=
  ⟨0xC0000, 0xF0000, by simp [Instr.mnemonic, opcodeRows], (mask_high4 .text0 data).trans (by decide)⟩
theorem wrText1 (data : Word) : Statement (.wrText1 data) :=
  ⟨0xD0000, 0xF0000, by simp [Instr.mnemonic, opcodeRows], (mask_high4 .text1 data).trans (by decide)⟩
theorem wrText2 (data : Word) : Statement (.wrText2 data) :=
  ⟨0xE0000, 0xF0000, by simp [Instr.mnemonic, opcodeRows], (mask_high4 .text2 data).trans (by decide)⟩
theorem wrR7 (data : Word) : Statement (.wrR7 data) :=
  ⟨0xF0000, 0xF0000, by simp [Instr.mnemonic, opcodeRows], (mask_high4 .r7 data).trans (by decide)⟩

end Sys2Proof.Laws.EncodesUnderItsRow
end

