-- ==== Sys2Proof/Laws/Render.lean ====
section
/-! SUPPORT. The picture a text leaves in the Mask and the Frame Buffer (44_text R96, 46_render R111). -/

namespace Sys2Proof.Machine

/-- The paint loop keeps "every Mask-true cell holds the foreground". -/
theorem composeFrom_ink (cfg : Config) (fg : Pixel) (codes : List Byte) :
    ∀ p cv, (∀ r c, r < 7 → c < 36 → maskRead cv.mask r c = true → fbRead cv.fb r c = fg) →
      ∀ r c, r < 7 → c < 36 → maskRead (composeFrom cfg fg p codes cv).mask r c = true →
        fbRead (composeFrom cfg fg p codes cv).fb r c = fg := by
  induction codes with
  | nil => intro p cv h; exact h
  | cons code rest ih =>
    intro p cv h
    refine ih (p + 1) _ fun r c hr hc hm => ?_
    rw [paintCanvas_mask _ _ _ _ _ _ _ hr hc] at hm
    rw [paintCanvas_fb _ _ _ _ _ _ _ hr (by omega)]
    by_cases hcov : slotCol cfg p ≤ c ∧ c < slotCol cfg p + 5
    · rw [if_pos hcov] at hm; rw [if_pos ⟨hcov, hm⟩]
    · rw [if_neg hcov] at hm; rw [if_neg fun h => hcov h.1]; exact h r c hr hc hm

/-- The Mask after the paint loop: the last position that covers a cell decides it, and a cell that none covers is as it was
(44_text R96). -/
theorem composeFrom_mask (cfg : Config) (fg : Pixel) (codes : List Byte) :
    ∀ p cv r c, r < 7 → c < 36 →
      (maskRead (composeFrom cfg fg p codes cv).mask r c = true ↔
        (∃ i, ∃ h : i < codes.length, Config.covers cfg (p + i) c ∧
          ink cfg codes[i] r (c - slotCol cfg (p + i)) = true ∧
          ∀ j, i < j → j < codes.length → ¬ Config.covers cfg (p + j) c) ∨
        (maskRead cv.mask r c = true ∧ ∀ j, j < codes.length → ¬ Config.covers cfg (p + j) c)) := by
  induction codes with
  | nil => intro p cv r c hr hc; simp [composeFrom]
  | cons code rest ih =>
    intro p cv r c hr hc
    rw [composeFrom, ih _ _ r c hr hc, paintCanvas_mask _ _ _ _ _ _ _ hr hc]
    have shift : ∀ j, p + 1 + j = p + (j + 1) := fun j => by omega
    constructor
    · rintro (⟨i, hi, hcov, hink, hlast⟩ | ⟨hm, hnone⟩)
      · refine .inl ⟨i + 1, by simpa using hi, by simpa only [shift] using hcov, by simpa only [shift, List.getElem_cons_succ] using hink, ?_⟩
        intro j hj hlen
        obtain ⟨j', rfl⟩ : ∃ j', j = j' + 1 := ⟨j - 1, by omega⟩
        rw [← shift]; exact hlast j' (by omega) (by simpa using hlen)
      · by_cases hcov : slotCol cfg p ≤ c ∧ c < slotCol cfg p + 5
        · rw [if_pos hcov] at hm
          refine .inl ⟨0, by simp, ⟨hcov.1, by simpa using Nat.le_of_lt_succ hcov.2⟩, by simpa using hm, ?_⟩
          intro j hj hlen
          obtain ⟨j', rfl⟩ : ∃ j', j = j' + 1 := ⟨j - 1, by omega⟩
          rw [← shift]; exact hnone j' (by simpa using hlen)
        · rw [if_neg hcov] at hm
          refine .inr ⟨hm, fun j hlen => ?_⟩
          rcases j with _ | j'
          · exact fun h => hcov ⟨h.1, Nat.lt_succ_of_le h.2⟩
          · rw [← shift]; exact hnone j' (by simpa using hlen)
    · rintro (⟨i, hi, hcov, hink, hlast⟩ | ⟨hm, hnone⟩)
      · rcases i with _ | i'
        · refine .inr ⟨?_, fun j hj => by rw [shift]; exact hlast _ (by omega) (by simpa using hj)⟩
          rw [if_pos ⟨hcov.1, Nat.lt_succ_of_le hcov.2⟩]; simpa using hink
        · refine .inl ⟨i', by simpa using hi, by simpa only [shift] using hcov, by simpa only [shift, List.getElem_cons_succ] using hink, ?_⟩
          intro j hj hlen
          rw [shift]; exact hlast _ (by omega) (by simpa using hlen)
      · refine .inr ⟨?_, fun j hj => by rw [shift]; exact hnone _ (by simpa using hj)⟩
        rw [if_neg fun h => hnone 0 (by simp) ⟨h.1, Nat.le_of_lt_succ h.2⟩]; exact hm

end Sys2Proof.Machine
end

