-- ==== Sys2Proof/Tests/Slice0.lean ====
section
/-! SUPPORT. Tests whose expected results stand in 95_test_vectors or in the tables of the rules named, smoke tests of the checks,
and for each statement with hypotheses a witness that meets them. -/

open Sys2Proof Sys2Proof.Machine

namespace Sys2Proof.Tests

-- One theorem after another: side by side, their kernel evaluations reserve more stacks than the memory limit holds.
set_option Elab.async false

/-! ### Helpers -/

/-- The state after an instruction, the state itself where the instruction stops. -/
def after (i : Instr) (s : State) : State :=
  match exec i s with
  | .next s' => s'
  | _ => s

/-- The last response. -/
def answer (s : State) : Option Word := s.responses.getLast?

/-- An element of the last frame. -/
def shown (s : State) (k : Nat) : Option Pixel := s.frames.getLast?.map fun f => frameRead f k

/-- Reset, with a settled reply for the next frame. -/
def replying (a : Byte) : State := { State.reset with txReplies := [.reply a] }

/-- Reset, in COMPOSING. -/
def composing : State := { State.reset with phase := .composing }

def silent : State := { State.reset with txReplies := [.never] }

def red : Pixel := ⟨0xFF, 0, 0⟩
def green : Pixel := ⟨0, 0xFF, 0⟩
def white : Pixel := ⟨0xFF, 0xFF, 0xFF⟩

/-- Operands of program P2 of 95_test_vectors. -/
def hello : State :=
  { replying 0 with text0 := 0x4845, text1 := 0x4C4C, text2 := 0x4F20, fgColor := 0x07E0, bgColor := 0x0010 }

/-! ### Decoding: words written out bit by bit from 30_encoding R50, R52, R53 (and 95_test_vectors B7) -/

theorem test_decode_reads :
    [0b00000000000000000000, 0b00010000000000000000, 0b00100000000000000000, 0b00110000000000000000, 0b01000000000000000000,
      0b01010000000000000000, 0b01100000000000000000, 0b01111111111111111111].map decode =
    [.rd .cmd, .rd .status, .rd .fgColor, .rd .bgColor, .rd .text0, .rd .text1, .rd .text2, .rd .r7] := by decide

theorem test_decode_commands :
    [0b10000001000101000001, 0b10000010000000000000, 0b10000011011001001100, 0b10000100000000000000,
      0b10000101000000000000].map decode =
    [.displaySymbol 0x41 1, .displayText, .paint 0x4C 6, .fill, .flush] := by decide

theorem test_decode_reserved :
    [0x80000, 0x86123, 0x87FFF, 0x88000, 0x89000, 0x8A000, 0x8B000, 0x8C000, 0x8D000, 0x8E000, 0x8F123].map decode =
    reservedInstrs := by decide

theorem test_decode_writes :
    [0x9FFFF, 0xAF800, 0xB0010, 0xC4845, 0xD4C4C, 0xE4F20, 0xF1234].map decode =
    [.wrStatus 0xFFFF, .wrFgColor 0xF800, .wrBgColor 0x0010, .wrText0 0x4845, .wrText1 0x4C4C, .wrText2 0x4F20,
      .wrR7 0x1234] := by decide

theorem test_decodeTableWord_row : decodeTableWord 24 0x83000 = some (.paint 0 0) := by decide

theorem test_decodeTableWord_refuses_21_bits : decodeTableWord 24 0x100000 = none := by decide

/-! ### Smoke tests of the checks: each refuses an ill-formed term -/

theorem smoke_isTransaction : isTransaction 0xFFFFF = true ∧ isTransaction 0x100000 = false := by decide

theorem smoke_default_valid : defaultConfig.valid = true := by decide +kernel

/-- A font with ink under code 0x00 (00_scope R6 (a)). -/
theorem smoke_font_ink_below : Config.valid { defaultConfig with
    font := defaultConfig.font.set 0x00 #v[0, 0, 0, 4, 0, 0, 0] } = false := by decide +kernel

/-- A font with ink under code 0x80 (00_scope R6 (a)); bits 7:5 alone are no ink (40_font R71). -/
theorem smoke_font_ink_above :
    Config.valid { defaultConfig with font := defaultConfig.font.set 0x80 #v[0, 0, 0, 0, 0, 0, 1] } = false ∧
    Config.valid { defaultConfig with font := defaultConfig.font.set 0x80 #v[0xE0, 0, 0, 0, 0, 0, 0] } = true := by
  decide +kernel

/-- A slot at column 32 (00_scope R6 (b)); 31 is the last valid origin. -/
theorem smoke_slot_outside :
    Config.valid { defaultConfig with slotCol := #v[0, 6, 12, 18, 24, 32] } = false ∧
    Config.valid { defaultConfig with slotCol := #v[31, 6, 12, 18, 24, 31] } = true := by decide +kernel

/-- Converters that are not monotone, miss 0 to 0, or miss the maximum to 255 (00_scope R6 (c)). -/
theorem smoke_converter :
    Config.valid { defaultConfig with red := defaultConfig.red.set 7 200 } = false ∧
    Config.valid { defaultConfig with green := defaultConfig.green.set 0 1 } = false ∧
    Config.valid { defaultConfig with blue := defaultConfig.blue.set 31 254 } = false := by decide +kernel

/-! ### Function units (95_test_vectors B1, B2, B5, B6) -/

theorem test_fontRead : [fontRead defaultConfig 0x41 0, fontRead defaultConfig 0x48 3, fontRead defaultConfig 0x31 1,
    fontRead defaultConfig 0x1F 0, fontRead defaultConfig 0x80 6] = [0x0E, 0x1F, 0x0C, 0, 0] := by decide +kernel

theorem test_ink_leftmost_is_bit4 : (List.range 5).map (ink defaultConfig 0x4C 0) = [true, false, false, false, false] := by
  decide +kernel

theorem test_convert : [0xF800, 0x8410, 0x1234, 0xABCD].map (convert defaultConfig) =
    [⟨255, 0, 0⟩, ⟨132, 130, 132⟩, ⟨16, 69, 165⟩, ⟨173, 121, 107⟩] := by decide +kernel

theorem test_decodePayload_low_first : decodePayload false 0x4845 0x4C4C 0x4F20 = [0x45, 0x48, 0x4C, 0x4C, 0x20, 0x4F] := by
  decide

theorem test_phys : [(0, 35), (1, 0), (1, 4), (3, 17), (5, 10), (6, 35)].map (fun c => phys (dirOf defaultConfig c.1) c.1 c.2) =
    [35, 71, 67, 126, 205, 251] := by decide

/-! ### One step of each kind (95_test_vectors B3, B4, B8, P1 to P4) -/

theorem test_paint_L_at_6 : let s := after (.paint 0x4C 6) { State.reset with fgColor := 0xFFFF }
    answer s = some 0x0010 ∧ fbRead s.fb 6 34 = white ∧ fbRead s.fb 5 31 = Pixel.black ∧ maskRead s.mask 0 30 = true ∧
    maskRead s.mask 0 31 = false := by decide +kernel

theorem test_paint_keeps_marks_in_composing :
    let s := after (.paint 0x31 3) { composing with mask := maskWrite maskClear 0 0 true }
    maskRead s.mask 0 0 = true ∧ maskRead s.mask 0 14 = true ∧ maskRead s.mask 0 13 = false := by decide +kernel

theorem test_paint_position_9_composing : answer (after (.paint 0x41 9) composing) = some 0x0011 := by decide +kernel

theorem test_fill_after_reset : let s := after .fill { State.reset with bgColor := 0x07E0 }
    answer s = some 0x0000 ∧ fbRead s.fb 0 0 = green ∧ fbRead s.fb 6 71 = green := by decide +kernel

theorem test_fill_keeps_ink : let s := after .fill { composing with mask := maskWrite maskClear 2 3 true, bgColor := 0xF800 }
    s.phase = .idle ∧ fbRead s.fb 2 3 = Pixel.black ∧ fbRead s.fb 2 4 = red ∧ maskRead s.mask 2 3 = true := by decide +kernel

theorem test_flush_failure : let s := after .flush (replying 0x2A)
    answer s = some 0x2A04 ∧ s.statusWord = 0x2A04 ∧ s.frames.length = 1 ∧ shown s 251 = some Pixel.black := by decide +kernel

theorem test_flush_composing : let s := after .flush composing
    answer s = some 0x0012 ∧ s.frames = [] ∧ s.txDraws = 0 := by decide +kernel

theorem test_displaySymbol_A : let s := after (.displaySymbol 0x41 1) { replying 0xFF with fgColor := 0xF800 }
    answer s = some 0xFF04 ∧ (shown s 1, shown s 67, shown s 71, shown s 0) =
      (some red, some red, some red, some Pixel.black) := by decide +kernel

theorem test_displaySymbol_position_0 : let s := after (.displaySymbol 0x41 0) (replying 0)
    answer s = some 0x0001 ∧ s.frames = [] ∧ s.txReplies = [.reply 0] := by decide +kernel

theorem test_displayText_hello : let s := after .displayText hello
    answer s = some 0x0000 ∧ (shown s 0, shown s 67, shown s 243, shown s 1) =
      (some green, some green, some green, some ⟨0, 0, 0x84⟩) := by decide +kernel

theorem test_displayText_counts_ink :
    ((after .displayText hello).frames.map fun f => (f.toList.filter fun p => p == green).length) = [73] := by decide +kernel

theorem test_reserved_composing : answer (after .reservedOp7 composing) = some 0x0013 := by decide +kernel

theorem test_read_status : answer (after (.rd .status) { State.reset with code := 4, txCode := 5 }) = some 0x0504 := by
  decide +kernel

theorem test_read_cmd_and_r7 : answer (after (.rd .cmd) hello) = some 0 ∧ answer (after (.rd .r7) hello) = some 0 := by
  decide +kernel

theorem test_write_bgColor : (after (.wrBgColor 0x1234) hello).bgColor = 0x1234 ∧
    (after (.wrBgColor 0x1234) hello).fgColor = 0x07E0 := by decide +kernel

theorem test_write_status_ignored : (after (.wrStatus 0xFFFF) { State.reset with code := 3 }).statusWord = 0x0003 := by
  decide +kernel

/-- The first step after reset runs the transaction that stands at the port (P1 line 1). -/
theorem test_step_runs_fetched_word :
    (match step (State.reset.withFetchWord 24 0xAF800) with
      | .next s => s.fgColor == 0xF800 && s.hostQueue == []
      | _ => false) = true := by decide +kernel

/-- `DSYM 'A', 1` and `WR CMD, 0x1141` are the same transaction (30_encoding R58). -/
theorem test_assembler : AsmLine.assemble (.dsym 0x41 1) = 0x81141 ∧ AsmLine.assemble (.wr .cmd 0x1141) = 0x81141 ∧
    (setText 0x48 0x45 0x4C 0x4C 0x4F 0x20).map AsmLine.assemble = [0xC4845, 0xD4C4C, 0xE4F20] := by decide

/-! ### Witnesses: a state and operands that meet each statement's hypotheses together -/

theorem witness_DecodeInvertsEncode : (Instr.paint 0x4C 6).WellFormed = true := rfl

theorem witness_StepRunsThePresentedTransaction : State.reset.config.valid = true ∧
    (State.reset.withFetchWord 24 0x83141).hostQueue = [.transaction 0x83141] := by decide +kernel

theorem witness_StepWaitsWhenNothingIsPresented : State.reset.config.valid = true ∧ State.reset.hostQueue = [] := by
  decide +kernel

theorem witness_OverlappingTransactionsAreRefused : ∃ s : State, s.config.valid = true ∧
    s.hostQueue = [.overlapping 0x84000 0x85000] :=
  ⟨{ State.reset with hostQueue := [.overlapping 0x84000 0x85000] }, by decide +kernel, rfl⟩

theorem witness_InvalidConfigurationIsRefused : ∃ s : State, s.config.valid = false :=
  ⟨{ State.reset with config := { defaultConfig with slotCol := #v[0, 6, 12, 18, 24, 32] } }, by decide +kernel⟩

theorem witness_ResetRestoresTheCore : ∃ s t : State, s.config.valid = true ∧ s.hostQueue = [.reset] ∧
    t.config.valid = true ∧ t.hostQueue = [.resetDuring 0x82000] :=
  ⟨{ composing with hostQueue := [.reset] }, { composing with hostQueue := [.resetDuring 0x82000] }, by decide +kernel, rfl,
    by decide +kernel, rfl⟩

theorem witness_OperandRegistersKeepTheirLastWrite : ∃ s', exec (.wrText0 1) hello = .next s' ∧
    (∀ d, Instr.wrText0 1 ≠ .wrFgColor d) ∧ (∀ d, Instr.wrText0 1 ≠ .wrBgColor d) ∧
    (∀ d, Instr.wrText0 1 ≠ .wrText1 d) ∧ (∀ d, Instr.wrText0 1 ≠ .wrText2 d) ∧ (∀ d, Instr.fill ≠ .wrText0 d) :=
  ⟨_, rfl, by simp, by simp, by simp, by simp, by simp⟩

theorem witness_StatusIsWrittenByCommandsAloneAndReadByNone : Instr.isCommand (.rd .status) = false ∧
    (∃ s', exec (.rd .status) hello = .next s') ∧ Instr.isCommand .fill = true := ⟨rfl, ⟨_, rfl⟩, rfl⟩

theorem witness_EveryTransactionReturnsOneResponse : (∃ s', exec .fill hello = .next s') ∧
    (∃ s', exec (.rd .text2) hello = .next s') ∧ ∃ s', exec (.wrR7 9) hello = .next s' := ⟨⟨_, rfl⟩, ⟨_, rfl⟩, ⟨_, rfl⟩⟩

theorem witness_InvalidPositionIsRejected : ((0 : BitVec 4).toNat = 0 ∧ 7 ≤ (7 : BitVec 4).toNat ∧ 7 ≤ (15 : BitVec 4).toNat) ∧
    ∃ s', exec (.paint 0x41 0) hello = .next s' ∧ s'.code = 1 := ⟨by decide, _, rfl, rfl⟩

theorem witness_FlushWhileComposingIsRejected : composing.phase = .composing ∧ Instr.isCommand .flush = true ∧
    ∃ s', exec .flush composing = .next s' ∧ s'.code = 2 := ⟨rfl, rfl, _, rfl, rfl⟩

theorem witness_ReservedOpcodeIsRejected : (0 : BitVec 4) = 0 ∧ 6 ≤ (6 : BitVec 4).toNat ∧ 6 ≤ (15 : BitVec 4).toNat := by decide

theorem witness_ReservedInstructionsChangeOnlyStatus : Instr.reservedOp9 ∈ reservedInstrs := by decide

theorem witness_RejectionChangesOnlyStatus : ∃ s' t' : State, exec .flush composing = .next s' ∧ s'.code.toNat = 2 ∧
    exec .reservedOp0 composing = .next t' ∧ t'.code.toNat = 3 := ⟨_, _, rfl, rfl, rfl, rfl⟩

theorem witness_EveryStepKeepsTheStatusLegal : ∃ s s' : State, s.StatusLegal ∧ step s = .next s' :=
  ⟨State.reset, State.reset, by simp [State.StatusLegal, State.reset],
    by simp [step, present, show State.reset.config.valid = true by decide +kernel, show State.reset.hostQueue = [] from rfl]⟩

theorem witness_positions : (1 ≤ (1 : BitVec 4).toNat ∧ (1 : BitVec 4).toNat ≤ 6) ∧
    (1 ≤ (6 : BitVec 4).toNat ∧ (6 : BitVec 4).toNat ≤ 6) := by decide

/-- For PaintWritesItsSlot: a cell of ink, a cell of the slot with no ink and the gap column after it. -/
theorem witness_PaintWritesItsSlot : slotCol defaultConfig 6 = 30 ∧ ink defaultConfig 0x4C 0 0 = true ∧
    ink defaultConfig 0x4C 0 4 = false ∧ ¬ (35 ≤ slotCol defaultConfig 6 + 4) := by decide +kernel

theorem witness_UndefinedCodePaintsBlank : State.reset.config.valid = true ∧ (0x1F : Byte).toNat < 0x20 ∧
    0x7F < (0x80 : Byte).toNat ∧ Config.covers defaultConfig 6 30 ∧ Config.covers defaultConfig 6 34 :=
  ⟨by decide +kernel, by decide, by decide, by unfold Config.covers; decide, by unfold Config.covers; decide⟩

theorem witness_RepeatedFillIsIdempotent : ∃ t u, exec .fill composing = .next t ∧ exec .fill t = .next u := ⟨_, _, rfl, rfl⟩

theorem witness_FillWritesEveryMaskFalseCell : maskRead (maskWrite maskClear 6 35 true) 6 35 = true ∧
    maskRead (maskWrite maskClear 6 35 true) 6 36 = false := by decide +kernel

theorem witness_PaintThenFillSeparatesInkFromBackground : ∃ t, execAll [.paint 0x41 1, .fill] State.reset = .next t ∧
    maskRead t.mask 0 0 = false ∧ maskRead t.mask 0 1 = true ∧ Config.covers State.reset.config 1 1 :=
  ⟨_, rfl, by decide +kernel, by decide +kernel, by unfold Config.covers; decide⟩

theorem witness_FlushEmitsTheWindow : (replying 5).phase = .idle ∧ (replying 5).nextAnswer = .reply 5 ∧
    (replying 0).nextAnswer = .reply 0 := by decide

/-- With no settled answer the reply is the free value, whatever it is. -/
theorem witness_free_reply : State.reset.nextAnswer = .reply (Config.txReply 0) := rfl

theorem witness_SilentTransmitterHangsTheCore : silent.nextAnswer = .never ∧ silent.phase = .idle := by decide

theorem witness_PhysicalIndexIsABijection : phys (dirOf defaultConfig 0) 0 0 = 0 ∧ phys (dirOf defaultConfig 6) 6 35 = 251 := by
  decide

theorem witness_DisplaySymbolEqualsItsParts : (replying 5).phase = .idle ∧
    ∃ u, execAll [.paint 0x41 6, .fill, .flush] (replying 5) = .next u := ⟨rfl, _, rfl⟩

theorem witness_DisplayTextEqualsItsParts :
    decodePayload hello.config.payloadHighFirst hello.text0 hello.text1 hello.text2 = [0x48, 0x45, 0x4C, 0x4C, 0x4F, 0x20] ∧
    ∃ u, execAll [.paint 0x48 1, .paint 0x45 2, .paint 0x4C 3, .paint 0x4C 4, .paint 0x4F 5, .paint 0x20 6, .fill, .flush]
      hello = .next u := ⟨by decide +kernel, _, rfl⟩

theorem witness_ReissuedDisplayEmitsAnEqualFrame : ∃ s t u : State, exec .displayText s = .next t ∧ exec .displayText t = .next u :=
  ⟨{ State.reset with txReplies := [.reply 1, .reply 0] }, _, _, rfl, rfl⟩

theorem witness_ZeroPayloadShowsTheBackground : (replying 0).config.valid = true ∧ (replying 0).text0 = 0 ∧
    (replying 0).text1 = 0 ∧ (replying 0).text2 = 0 ∧ (replying 0).nextAnswer = .reply 0 := by decide +kernel

theorem witness_AccessOutsideAGridIsDropped : ¬ ((7 : Nat) ≤ 6 ∧ (0 : Nat) ≤ 71) ∧ ¬ ((0 : Nat) ≤ 6 ∧ (72 : Nat) ≤ 71) ∧
    ¬ ((0 : Nat) ≤ 6 ∧ (36 : Nat) ≤ 35) := by decide

theorem witness_PhaseFollowsTheTransitionTable : (∃ t, exec (.paint 0x41 1) State.reset = .next t) ∧
    (∃ t, exec (.paint 0x41 7) composing = .next t) ∧ (∃ t, exec .fill composing = .next t) ∧
    (∃ t, exec (.displaySymbol 0x41 0) composing = .next t) ∧ (∃ t, exec (.displaySymbol 0x41 6) (replying 0) = .next t) ∧
    ∃ t, exec .displayText (replying 0) = .next t := ⟨⟨_, rfl⟩, ⟨_, rfl⟩, ⟨_, rfl⟩, ⟨_, rfl⟩, ⟨_, rfl⟩, ⟨_, rfl⟩⟩

theorem witness_FramesShowOnlyIdleBuffers : ∃ t, exec .flush (replying 0) = .next t ∧ t.frames ≠ (replying 0).frames :=
  ⟨_, rfl, by simp [replying, State.reset]⟩

theorem witness_OnlyPaintsAndFillsWriteTheGrids : ∃ t, exec .fill { State.reset with bgColor := 0xFFFF } = .next t ∧
    fbRead t.fb 0 0 ≠ fbRead State.reset.fb 0 0 ∧
    ∃ u, exec (.paint 0x4C 1) State.reset = .next u ∧ maskRead u.mask 0 0 ≠ maskRead State.reset.mask 0 0 :=
  ⟨_, rfl, by decide +kernel, _, rfl, by decide +kernel⟩

/-- For the whole-machine rules over steps: a step that runs a PAINT, from a state that meets the invariants. -/
theorem witness_step_paints : ∃ s s' : State, s.BackgroundUniform ∧ s.MaskInSlots ∧ step s = .next s' ∧ s'.phase = .composing := by
  refine ⟨State.reset.withFetchWord 24 0x83141, after (.paint 0x41 1) State.reset,
    fun _ => ⟨Pixel.black, fun r c _ _ _ => fbRead_reset r c⟩, fun r c _ _ h => ?_, ?_, ?_⟩
  · exact absurd h (by simp [State.withFetchWord])
  · simp only [step, present, State.withFetchWord, show State.reset.config.valid = true by decide +kernel, if_true, eventOfWord,
      show decode (BitVec.ofNat 20 0x83141) = .paint 0x41 1 by decide]
    rfl
  · rfl

/-- For HiddenColumnsAreNeverObserved: two states that differ in a hidden column. -/
theorem witness_HiddenColumnsAreNeverObserved :
    VisiblyEqual State.reset (State.reset.setFb (fbWrite State.reset.fb 0 36 red)) ∧
    fbRead (fbWrite State.reset.fb 0 36 red) 0 36 ≠ fbRead State.reset.fb 0 36 := by
  refine ⟨⟨rfl, fun r c _ hc => ?_⟩, by decide +kernel⟩
  rw [State.setFb_fb, fbRead_fbWrite, if_neg (by omega)]

end Sys2Proof.Tests
end

section
/-! SUPPORT. The conditions of a valid configuration (00_scope R6), each said of what the machine reads, and the proofs of the
scope statements: what a step does with a valid configuration, with an invalid one, and that the default one is valid. -/

namespace Sys2Proof.Machine

/-! ### Condition (a): the font -/

/-- A glyph is blank when bits 4:0 of each of its seven rows are 0 (40_font R71, R72). -/
theorem glyph_blank_iff (g : Glyph) : g.blank = true ↔ ∀ r (hr : r < 7), g[r].extractLsb' 0 5 = 0 := by
  simp [Glyph.blank]

/-- A code's glyph is blank when the machine reads seven zero rows for it. -/
theorem glyph_blank_iff_fontRead (c : Config) (code : Byte) :
    (c.font[code.toNat]).blank = true ↔ ∀ r, r < 7 → fontRead c code r = 0 := by
  rw [glyph_blank_iff]
  exact forall₂_congr fun r hr => by simp [fontRead, hr]

theorem fontBlankOutside_iff_getElem (c : Config) :
    c.fontBlankOutside = true ↔ ∀ k (hk : k < 256), k < 0x20 ∨ 0x7F < k → c.font[k].blank = true := by
  simp only [Config.fontBlankOutside, List.all_append, Bool.and_eq_true, List.all_eq_true, List.forall_mem_iff_getElem,
    List.length_take, List.length_drop, List.getElem_take, List.getElem_drop, Vector.length_toList, Vector.getElem_toList]
  constructor
  · rintro ⟨hlow, hhigh⟩ k hk (h | h)
    · exact hlow k (by omega)
    · simpa [show 0x80 + (k - 0x80) = k by omega] using hhigh (k - 0x80) (by omega)
  · intro h
    exact ⟨fun k hk => h k (by omega) (by omega), fun k hk => h (0x80 + k) (by omega) (by omega)⟩

theorem fontBlankOutside_iff (c : Config) :
    c.fontBlankOutside = true ↔
      ∀ code : Byte, code.toNat < 0x20 ∨ 0x7F < code.toNat → ∀ r, r < 7 → fontRead c code r = 0 := by
  rw [fontBlankOutside_iff_getElem]
  constructor
  · intro h code hcode
    exact (glyph_blank_iff_fontRead c code).mp (h code.toNat code.isLt hcode)
  · intro h k hk hout
    have hcode : (BitVec.ofNat 8 k).toNat = k := by simpa using hk
    simpa [hcode] using (glyph_blank_iff_fontRead c (BitVec.ofNat 8 k)).mpr (h _ (by rwa [hcode]))

/-! ### Condition (b): the slot table -/

theorem slotCol_eq_getElem (c : Config) (k : Nat) (hk : k < 6) : slotCol c (k + 1) = c.slotCol[k] := by
  simp [slotCol, hk]

theorem slotsInside_iff (c : Config) : c.slotsInside = true ↔ ∀ p, 1 ≤ p → p ≤ 6 → slotCol c p ≤ 31 := by
  simp only [Config.slotsInside, List.all_eq_true, decide_eq_true_eq, List.forall_mem_iff_getElem, Vector.length_toList,
    Vector.getElem_toList]
  constructor
  · intro h p hp hp'
    obtain ⟨k, rfl⟩ := Nat.exists_eq_add_of_le' hp
    rw [slotCol_eq_getElem c k (by omega)]
    exact h k (by omega)
  · intro h k hk
    rw [← slotCol_eq_getElem c k hk]
    exact h (k + 1) (by omega) (by omega)

/-! ### Condition (c): the colour converter -/

/-- What a channel table holds for a colour whose field of that channel starts at bit `k` (41_color R75). -/
def channelAt {w : Nat} (table : Vector Byte (2 ^ w)) (k : Nat) (color : Word) : Byte :=
  table[(color.extractLsb' k w).toNat]

theorem convert_red (c : Config) (x : Word) : (convert c x).red = channelAt (w := 5) c.red 11 x := rfl

theorem convert_green (c : Config) (x : Word) : (convert c x).green = channelAt (w := 6) c.green 5 x := rfl

theorem convert_blue (c : Config) (x : Word) : (convert c x).blue = channelAt (w := 5) c.blue 0 x := rfl

/-- Every value of a field that lies inside the word is the field of some colour. -/
theorem exists_field_eq {k w : Nat} (hk : k + w ≤ 16) (f : BitVec w) : ∃ x : Word, x.extractLsb' k w = f := by
  refine ⟨f.setWidth 16 <<< k, BitVec.eq_of_getLsbD_eq fun i hi => ?_⟩
  simp [hi, show k + i < 16 by omega]

theorem rising_iff_isChain (l : List Byte) : rising l = true ↔ l.IsChain (· ≤ ·) := by
  induction l with
  | nil => simp [rising]
  | cons a rest ih =>
    cases rest with
    | nil => simp [rising]
    | cons b rest => simp [rising, ih, BitVec.le_def]

/-- A table with no fall from one entry to the next is monotone. -/
theorem rising_iff_getElem (l : List Byte) :
    rising l = true ↔ ∀ i j (hi : i < l.length) (hj : j < l.length), i ≤ j → l[i] ≤ l[j] := by
  rw [rising_iff_isChain, List.isChain_iff_pairwise, List.pairwise_iff_getElem]
  constructor
  · intro h i j hi hj hij
    obtain rfl | hlt := hij.eq_or_lt
    · exact BitVec.le_refl _
    · exact h i j hi hj hlt
  · exact fun h i j hi hj hij => h i j hi hj hij.le

/-- The table of a channel is monotone exactly when CONVERT is monotone in that channel's field. -/
theorem rising_iff_channelAt {k w : Nat} (hk : k + w ≤ 16) (table : Vector Byte (2 ^ w)) :
    rising table.toList = true ↔
      ∀ x y : Word, x.extractLsb' k w ≤ y.extractLsb' k w → channelAt table k x ≤ channelAt table k y := by
  simp only [rising_iff_getElem, Vector.length_toList, Vector.getElem_toList]
  constructor
  · exact fun h x y hxy => h _ _ (BitVec.isLt _) (BitVec.isLt _) hxy
  · intro h i j hi hj hij
    obtain ⟨x, hx⟩ := exists_field_eq hk (BitVec.ofNatLT i hi)
    obtain ⟨y, hy⟩ := exists_field_eq hk (BitVec.ofNatLT j hj)
    simpa [channelAt, hx, hy] using h x y (by simpa [hx, hy, BitVec.le_def] using hij)

/-- The first entry of a table is what it holds for the colour 0x0000. -/
theorem head_eq_channelAt {w : Nat} (table : Vector Byte (2 ^ w)) (k : Nat) :
    table.toList.head? = some (channelAt table k 0x0000) := by
  simp [channelAt, List.head?_eq_getElem?]

/-- The last entry of a table is what it holds for the colour 0xFFFF. -/
theorem getLast_eq_channelAt {k w : Nat} (hk : k + w ≤ 16) (table : Vector Byte (2 ^ w)) :
    table.toList.getLast? = some (channelAt table k 0xFFFF) := by
  have hfield : (0xFFFF : Word).extractLsb' k w = BitVec.allOnes w := by
    refine BitVec.eq_of_getLsbD_eq fun i hi => ?_
    rw [show (0xFFFF : Word) = BitVec.allOnes 16 by decide, BitVec.getLsbD_extractLsb', BitVec.getLsbD_allOnes,
      BitVec.getLsbD_allOnes]
    simp [show k + i < 16 by omega]
  simp only [channelAt, hfield, BitVec.toNat_allOnes]
  simp [List.getLast?_eq_getElem?]

theorem channelOk_iff {k w : Nat} (hk : k + w ≤ 16) (table : Vector Byte (2 ^ w)) :
    channelOk table.toList = true ↔
      (∀ x y : Word, x.extractLsb' k w ≤ y.extractLsb' k w → channelAt table k x ≤ channelAt table k y) ∧
      channelAt table k 0x0000 = 0 ∧ channelAt table k 0xFFFF = 255 := by
  simp [channelOk, rising_iff_channelAt hk, head_eq_channelAt table k, getLast_eq_channelAt hk, and_assoc]

theorem convertOk_iff (c : Config) :
    c.convertOk = true ↔
      (∀ x y : Word, x.extractLsb' 11 5 ≤ y.extractLsb' 11 5 → (convert c x).red ≤ (convert c y).red) ∧
      (∀ x y : Word, x.extractLsb' 5 6 ≤ y.extractLsb' 5 6 → (convert c x).green ≤ (convert c y).green) ∧
      (∀ x y : Word, x.extractLsb' 0 5 ≤ y.extractLsb' 0 5 → (convert c x).blue ≤ (convert c y).blue) ∧
      convert c 0x0000 = ⟨0, 0, 0⟩ ∧ convert c 0xFFFF = ⟨255, 255, 255⟩ := by
  have hred := channelOk_iff (k := 11) (w := 5) (by decide) c.red
  have hgreen := channelOk_iff (k := 5) (w := 6) (by decide) c.green
  have hblue := channelOk_iff (k := 0) (w := 5) (by decide) c.blue
  have hpixel (x : Word) (v : Byte) : convert c x = ⟨v, v, v⟩ ↔
      channelAt (w := 5) c.red 11 x = v ∧ channelAt (w := 6) c.green 5 x = v ∧ channelAt (w := 5) c.blue 0 x = v := by
    rw [← convert_red, ← convert_green, ← convert_blue, Pixel.mk.injEq]
  simp only [Config.convertOk, Bool.and_eq_true, convert_red, convert_green, convert_blue, hpixel]
  tauto

/-! ### What a step does with the configuration -/

theorem valid_iff (c : Config) :
    c.valid = true ↔ c.fontBlankOutside = true ∧ c.slotsInside = true ∧ c.convertOk = true := by
  simp [Config.valid, and_assoc]

theorem present_of_invalid {s : State} (h : s.config.valid = false) : present s = .refuse .invalidConfiguration := by
  simp [present, h]

theorem present_of_transaction {s : State} {t : Transaction} {rest : List HostEvent} (hv : s.config.valid = true)
    (hq : s.hostQueue = .transaction t :: rest) : present s = .run (decode t) { s with hostQueue := rest } := by
  simp [present, hv, hq]

/-- Settles O10: each condition of `valid` is what the machine reads of its table; an invalid configuration is refused before
the host's queue is looked at. -/
theorem invalidConfigurationIsRefused : Obligations.InvalidConfigurationIsRefused := by
  refine ⟨fun c => ?_, fun s h => by simp [step, present_of_invalid h]⟩
  rw [valid_iff, fontBlankOutside_iff, slotsInside_iff, convertOk_iff]

/-- Settles O7: the presented transaction is taken off the queue and run. -/
theorem stepRunsThePresentedTransaction : Obligations.StepRunsThePresentedTransaction := by
  intro s t rest hv hq
  simp [step, present_of_transaction hv hq]

/-! ### The default configuration -/

/-- Outside 0x20 to 0x7F the default font holds the blank glyph, by its definition (40_font R72). -/
theorem fontBlankOutside_default : defaultConfig.fontBlankOutside = true := by
  refine (fontBlankOutside_iff_getElem _).mpr fun k hk hout => ?_
  have hglyph : defaultConfig.font[k] = blankGlyph := by
    simp [defaultConfig, tableOf, refGlyph, show ¬ (0x20 ≤ k ∧ k ≤ 0x7F) by omega]
  rw [hglyph]
  decide

theorem slotsInside_default : defaultConfig.slotsInside = true := by decide

/-- Bit replication is monotone and takes 0 to 0 and the maximum to 255 (41_color R76). -/
theorem convertOk_default : defaultConfig.convertOk = true := by decide +kernel

/-- Settles O43: the three conditions, one by one. -/
theorem defaultConfigurationIsValid : Obligations.DefaultConfigurationIsValid :=
  (valid_iff defaultConfig).mpr ⟨fontBlankOutside_default, slotsInside_default, convertOk_default⟩

end Sys2Proof.Machine
end

section
/-! SUPPORT. What every step keeps (10_state R13 to R17, R22, R25, R28), the values after reset (R27), and that Frame Buffer columns
36 to 71 are never observed (R29 (b)). -/

namespace Sys2Proof.Machine

/-! ### What the states that commands leave have in common with the state before -/

/-- A rejection leaves everything but STATUS and the response (60_exceptions R134). -/
@[simp] theorem rejected_keeps (e : StatusCode) (s : State) :
    (rejected e s).config = s.config ∧ (rejected e s).fgColor = s.fgColor ∧ (rejected e s).bgColor = s.bgColor ∧
    (rejected e s).text0 = s.text0 ∧ (rejected e s).text1 = s.text1 ∧ (rejected e s).text2 = s.text2 ∧
    (rejected e s).phase = s.phase ∧ (rejected e s).fb = s.fb ∧ (rejected e s).mask = s.mask := by
  simp [rejected]

/-- A flush leaves everything but STATUS, the transmitter's side and the observation (45_display R106). -/
@[simp] theorem flushed_keeps (a : Byte) (s : State) :
    (flushed a s).config = s.config ∧ (flushed a s).fgColor = s.fgColor ∧ (flushed a s).bgColor = s.bgColor ∧
    (flushed a s).text0 = s.text0 ∧ (flushed a s).text1 = s.text1 ∧ (flushed a s).text2 = s.text2 ∧
    (flushed a s).phase = s.phase ∧ (flushed a s).fb = s.fb ∧ (flushed a s).mask = s.mask := by
  simp [flushed]

/-- Composing a symbol leaves the configuration and the operands, and the phase IDLE (46_render R110). -/
@[simp] theorem symbolPicture_keeps (sym : Byte) (pos : BitVec 4) (s : State) :
    (symbolPicture sym pos s).config = s.config ∧ (symbolPicture sym pos s).fgColor = s.fgColor ∧
    (symbolPicture sym pos s).bgColor = s.bgColor ∧ (symbolPicture sym pos s).text0 = s.text0 ∧
    (symbolPicture sym pos s).text1 = s.text1 ∧ (symbolPicture sym pos s).text2 = s.text2 ∧
    (symbolPicture sym pos s).phase = .idle := by
  simp [symbolPicture]

/-- Composing a text leaves the configuration and the operands, and the phase IDLE (46_render R111). -/
@[simp] theorem textPicture_keeps (s : State) :
    (textPicture s).config = s.config ∧ (textPicture s).fgColor = s.fgColor ∧ (textPicture s).bgColor = s.bgColor ∧
    (textPicture s).text0 = s.text0 ∧ (textPicture s).text1 = s.text1 ∧ (textPicture s).text2 = s.text2 ∧
    (textPicture s).phase = .idle := by
  simp [textPicture]

/-! ### The cases of `Effect` and of a step are what `exec` and `step` answer -/

theorem exec_reserved (s : State) {i : Instr} (hi : i ∈ reservedInstrs) : exec i s = .next (rejected .errOpcode s) := by
  unfold reservedInstrs at hi
  fin_cases hi <;> rfl

/-- The converse of `exec_effect`. -/
theorem exec_of_effect {i : Instr} {s s' : State} (h : Effect s i s') : exec i s = .next s' := by
  cases h with
  | reserved _ hi => exact exec_reserved s hi
  | paintRejected sym pos h => simp [exec, execPaint, h, raiseErr, rejected]
  | symbolRejected sym pos h => simp [exec, execDisplaySymbol, h, raiseErr, rejected]
  | flushRejected h => simp [exec, execFlush, h, raiseErr, rejected]
  | paint sym pos h => simp [exec, execPaint, h]
  | flush a h ha => simp [exec, execFlush, h, flushFrame_of_reply ha, flushed]
  | symbol sym pos a h ha =>
    exact (if_pos h).trans (flushFrame_of_reply ((nextAnswer_symbolPicture sym pos s).trans ha))
  | text a ha => exact flushFrame_of_reply ((nextAnswer_textPicture s).trans ha)
  | _ => rfl

theorem step_of_no_event {s : State} (hv : s.config.valid = true) (hq : s.hostQueue = []) : step s = .next s := by
  simp [step, present, hv, hq]

theorem step_of_reset {s : State} {rest : List HostEvent} (hv : s.config.valid = true)
    (hq : s.hostQueue = .reset :: rest) : step s = .next (State.applyReset { s with hostQueue := rest }) := by
  simp [step, present, hv, hq]

theorem step_of_effect {s s' : State} {t : Transaction} {rest : List HostEvent} (hv : s.config.valid = true)
    (hq : s.hostQueue = .transaction t :: rest) (h : Effect { s with hostQueue := rest } (decode t) s') :
    step s = .next s' :=
  (stepRunsThePresentedTransaction s t rest hv hq).trans (exec_of_effect h)

/-- A predicate that does not look at the host's queue, that every instruction keeps and that reset keeps, is kept by every
step. -/
theorem step_keeps {P : State → Prop} (hqueue : ∀ s q, P s → P { s with hostQueue := q })
    (heffect : ∀ i s s', Effect s i s' → P s → P s') (hreset : ∀ s, P s → P s.applyReset)
    {s s' : State} (hs : P s) (h : step s = .next s') : P s' := by
  obtain ⟨-, ⟨-, rfl⟩ | ⟨t, i, rest, -, -, he⟩ | ⟨rest, -, rfl⟩⟩ := step_cases h
  · exact hs
  · exact heffect i _ _ he (hqueue s rest hs)
  · exact hreset _ (hqueue s rest hs)

/-! ### STATUS is legal (10_state R22) -/

/-- Rejections use the codes 1 to 3; code 4 is the transmitter's (60_exceptions R130). -/
theorem rejected_statusLegal {e : StatusCode} (he : e ≠ .errTx) (s : State) : (rejected e s).StatusLegal := by
  cases e with
  | errTx => exact absurd rfl he
  | _ => simp [State.StatusLegal, rejected, StatusCode.bits]

/-- ERR_TX is set together with a reply other than 0, OK with the reply 0 (45_display R105). -/
theorem flushed_statusLegal (a : Byte) (s : State) : (flushed a s).StatusLegal := by
  by_cases ha : a = 0#8 <;> simp [State.StatusLegal, flushed, ha]

theorem setOk_statusLegal (s : State) : s.setOk.respondStatus.StatusLegal := by simp [State.StatusLegal]

/-- Every command sets a legal STATUS; reads and register writes leave STATUS alone. -/
theorem Effect.keeps_statusLegal {i : Instr} {s s' : State} (h : Effect s i s') (hs : s.StatusLegal) : s'.StatusLegal := by
  cases h with
  | reserved _ _ | paintRejected _ _ _ | symbolRejected _ _ _ | flushRejected _ => exact rejected_statusLegal (by decide) s
  | paint _ _ _ | fill => exact setOk_statusLegal _
  | flush a _ _ | symbol _ _ a _ _ | text a _ => exact flushed_statusLegal a _
  | _ => exact hs

theorem reset_statusLegal : State.reset.StatusLegal := by simp [State.StatusLegal, State.reset]

/-- Settles O24: reset is the one event beside the instructions that writes STATUS, and it writes OK. -/
theorem everyStepKeepsTheStatusLegal : Obligations.EveryStepKeepsTheStatusLegal :=
  fun _ _ => step_keeps (fun _ _ hs => hs) (fun _ _ _ => Effect.keeps_statusLegal) (fun _ _ => reset_statusLegal)

/-! ### The background is uniform in IDLE (10_state R17) -/

/-- The invariant speaks of phase, Frame Buffer and Mask only. -/
theorem State.BackgroundUniform.congr {s s' : State} (hs : s.BackgroundUniform) (hphase : s'.phase = s.phase)
    (hfb : s'.fb = s.fb) (hmask : s'.mask = s.mask) : s'.BackgroundUniform := by
  rw [State.BackgroundUniform, hphase, hfb, hmask]
  exact hs

/-- A fill makes the background uniform, whatever the Frame Buffer was (43_fill R91). -/
theorem backgroundUniform_of_fill {s : State} {bg : Pixel} {fb : FrameBuffer} (h : s.fb = fillGrid s.mask bg fb) :
    s.BackgroundUniform := by
  refine fun _ => ⟨bg, fun r c hr hc hm => ?_⟩
  simp [h, fillGrid_read _ _ _ _ _ hr hc, hm]

/-- In COMPOSING nothing is claimed. -/
theorem backgroundUniform_of_composing {s : State} (h : s.phase = .composing) : s.BackgroundUniform := by
  simp [State.BackgroundUniform, h]

/-- FILL and the display commands end with a fill, PAINT ends in COMPOSING, and no other instruction writes phase or grids. -/
theorem Effect.keeps_backgroundUniform {i : Instr} {s s' : State} (h : Effect s i s') (hs : s.BackgroundUniform) :
    s'.BackgroundUniform := by
  cases h with
  | paint _ _ _ => exact backgroundUniform_of_composing (by simp)
  | fill => exact backgroundUniform_of_fill (bg := s.background) (fb := s.fb) (by simp)
  | symbol sym pos a _ _ =>
    exact backgroundUniform_of_fill (bg := s.background) (fb := (paintGlyph sym pos.toNat s.foreground (newPass s)).fb)
      (by simp [symbolPicture])
  | text a _ =>
    exact backgroundUniform_of_fill (bg := s.background) (fb := (composeText s.textCodes s.foreground (newPass s)).fb)
      (by simp [textPicture])
  | _ => exact hs.congr (by simp) (by simp) (by simp)

/-- The Frame Buffer of a reset machine is black (10_state R27). -/
theorem applyReset_backgroundUniform (s : State) : s.applyReset.BackgroundUniform :=
  fun _ => ⟨Pixel.black, fun r c _ _ _ => fbRead_reset r c⟩

/-- Settles O50: the instructions keep it, and reset leaves one colour, black. -/
theorem everyStepKeepsTheBackgroundUniform : Obligations.EveryStepKeepsTheBackgroundUniform :=
  fun _ _ => step_keeps (fun _ _ hs => hs) (fun _ _ _ => Effect.keeps_backgroundUniform)
    (fun s _ => applyReset_backgroundUniform s)

/-! ### Frame Buffer columns 36 to 71 are never observed (10_state R29 (b)) -/

/-- The two Frame Buffers read alike in the window, columns 0 to 35 (45_display R101). -/
def SameWindow (a b : FrameBuffer) : Prop := ∀ r c, r < 7 → c < 36 → fbRead b r c = fbRead a r c

/-- The two canvases have one Mask and read alike in the window. -/
def SameShow (a b : Canvas) : Prop := b.mask = a.mask ∧ SameWindow a.fb b.fb

/-- A paint writes a cell alike in both canvases (42_glyph R83). -/
theorem SameShow.paintCanvas {a b : Canvas} (h : SameShow a b) (cfg : Config) (sym : Byte) (p : Nat) (fg : Pixel) :
    SameShow (paintCanvas cfg sym p fg a) (paintCanvas cfg sym p fg b) := by
  obtain ⟨hmask, hfb⟩ := h
  constructor
  · refine mask_eq_of_read fun r c hr hc => ?_
    rw [paintCanvas_mask _ _ _ _ _ _ _ hr hc, paintCanvas_mask _ _ _ _ _ _ _ hr hc, hmask]
  · intro r c hr hc
    rw [paintCanvas_fb _ _ _ _ _ _ _ hr (by omega), paintCanvas_fb _ _ _ _ _ _ _ hr (by omega), hfb r c hr hc]

theorem SameShow.composeFrom {cfg : Config} {fg : Pixel} {codes : List Byte} :
    ∀ {a b : Canvas} (p : Nat), SameShow a b → SameShow (composeFrom cfg fg p codes a) (composeFrom cfg fg p codes b) := by
  induction codes with
  | nil => exact fun _ h => h
  | cons code rest ih => exact fun p h => ih (p + 1) (h.paintCanvas cfg code p fg)

theorem SameWindow.fillGrid {a b : FrameBuffer} (h : SameWindow a b) (m : MaskGrid) (bg : Pixel) :
    SameWindow (fillGrid m bg a) (fillGrid m bg b) := by
  intro r c hr hc
  rw [fillGrid_read _ _ _ _ _ hr (by omega), fillGrid_read _ _ _ _ _ hr (by omega), h r c hr hc]

/-! The operations of the model, each on two visibly equal states. -/

section
variable {s t : State} (h : VisiblyEqual s t)
include h

theorem VisiblyEqual.exists_fb : ∃ fb, t = s.setFb fb ∧ SameWindow s.fb fb := ⟨t.fb, h⟩

theorem VisiblyEqual.setCanvas {a b : Canvas} (hab : SameShow a b) : VisiblyEqual (s.setCanvas a) (t.setCanvas b) := by
  obtain ⟨fb, rfl, -⟩ := h.exists_fb
  refine ⟨?_, hab.2⟩
  simp only [State.setCanvas, State.setFb, hab.1]

theorem VisiblyEqual.setFb {a b : FrameBuffer} (hab : SameWindow a b) : VisiblyEqual (s.setFb a) (t.setFb b) := by
  obtain ⟨fb, rfl, -⟩ := h.exists_fb
  exact ⟨rfl, hab⟩

/-- An operation that neither reads nor writes the Frame Buffer keeps two states visibly equal. -/
theorem VisiblyEqual.map {f : State → State} (hset : ∀ u fb, f (u.setFb fb) = (f u).setFb fb)
    (hfb : ∀ u, (f u).fb = u.fb) : VisiblyEqual (f s) (f t) := by
  obtain ⟨fb, rfl, hwin⟩ := h.exists_fb
  rw [hset]
  exact ⟨rfl, by rwa [State.setFb_fb, hfb]⟩

theorem VisiblyEqual.setHostQueue (q : List HostEvent) : VisiblyEqual { s with hostQueue := q } { t with hostQueue := q } :=
  h.map (f := fun u => { u with hostQueue := q }) (fun _ _ => rfl) (fun _ => rfl)

theorem VisiblyEqual.respond (w : Word) : VisiblyEqual (s.respond w) (t.respond w) :=
  h.map (fun _ _ => rfl) (fun _ => rfl)

theorem VisiblyEqual.writeReg (reg : HostReg) (d : Word) : VisiblyEqual (s.writeReg reg d) (t.writeReg reg d) :=
  h.map (fun _ _ => by cases reg <;> rfl) (fun u => u.writeReg_fb reg d)

theorem VisiblyEqual.setPhase (p : Phase) : VisiblyEqual (s.setPhase p) (t.setPhase p) :=
  h.map (fun _ _ => rfl) (fun _ => rfl)

theorem VisiblyEqual.setOk : VisiblyEqual s.setOk t.setOk :=
  h.map (fun _ _ => rfl) (fun _ => rfl)

theorem VisiblyEqual.respondStatus : VisiblyEqual s.respondStatus t.respondStatus :=
  h.map (fun _ _ => rfl) (fun _ => rfl)

theorem VisiblyEqual.rejected (e : StatusCode) : VisiblyEqual (rejected e s) (rejected e t) :=
  h.map (fun _ _ => rfl) (fun _ => rfl)

theorem VisiblyEqual.newPass : VisiblyEqual (newPass s) (newPass t) :=
  h.map (fun _ _ => rfl) (fun _ => rfl)

theorem VisiblyEqual.startPass : VisiblyEqual (startPass s) (startPass t) := by
  refine h.map (fun u fb => ?_) startPass_fb
  unfold Machine.startPass
  rw [State.setFb_phase]
  cases u.phase <;> rfl

theorem VisiblyEqual.canvas : SameShow s.canvas t.canvas := by
  obtain ⟨fb, rfl, hwin⟩ := h.exists_fb
  exact ⟨rfl, hwin⟩

theorem VisiblyEqual.paintGlyph (sym : Byte) (p : Nat) (fg : Pixel) :
    VisiblyEqual (paintGlyph sym p fg s) (paintGlyph sym p fg t) := by
  obtain ⟨fb, rfl, -⟩ := h.exists_fb
  exact h.setCanvas (h.canvas.paintCanvas s.config sym p fg)

theorem VisiblyEqual.composeText (codes : List Byte) (fg : Pixel) :
    VisiblyEqual (composeText codes fg s) (composeText codes fg t) := by
  obtain ⟨fb, rfl, -⟩ := h.exists_fb
  exact h.setCanvas (h.canvas.composeFrom 1)

theorem VisiblyEqual.fillBackground (bg : Pixel) : VisiblyEqual (fillBackground bg s) (fillBackground bg t) := by
  obtain ⟨fb, rfl, hwin⟩ := h.exists_fb
  exact h.setFb (hwin.fillGrid s.mask bg)

/-- The frame shows the window alone (45_display R101), so the two states emit one frame. -/
theorem VisiblyEqual.frameOf_eq : frameOf t.config t.fb = frameOf s.config s.fb := by
  obtain ⟨fb, rfl, hwin⟩ := h.exists_fb
  exact frameOf_congr _ _ _ hwin

theorem VisiblyEqual.flushed (a : Byte) : VisiblyEqual (flushed a s) (flushed a t) := by
  unfold Machine.flushed
  rw [h.frameOf_eq]
  refine h.map (f := fun u => ((u.emit (frameOf s.config s.fb)).takeReply a).respondStatus) (fun u fb => ?_) (fun u => by simp)
  unfold State.takeReply
  split <;> rfl

/-- Whatever an instruction does in `s`, it does in `t`: its guards and its operands are no cells of the Frame Buffer. -/
theorem Effect.of_visiblyEqual {i : Instr} {s' : State} (he : Effect s i s') : ∃ t', Effect t i t' ∧ VisiblyEqual s' t' := by
  obtain ⟨fb, rfl, -⟩ := h.exists_fb
  cases he with
  | read reg => exact ⟨_, .read reg, by cases reg <;> exact h.respond _⟩
  | writeStatus d => exact ⟨_, .writeStatus d, h.respond 0⟩
  | writeFgColor d => exact ⟨_, .writeFgColor d, (h.writeReg .fgColor d).respond 0⟩
  | writeBgColor d => exact ⟨_, .writeBgColor d, (h.writeReg .bgColor d).respond 0⟩
  | writeText0 d => exact ⟨_, .writeText0 d, (h.writeReg .text0 d).respond 0⟩
  | writeText1 d => exact ⟨_, .writeText1 d, (h.writeReg .text1 d).respond 0⟩
  | writeText2 d => exact ⟨_, .writeText2 d, (h.writeReg .text2 d).respond 0⟩
  | writeR7 d => exact ⟨_, .writeR7 d, h.respond 0⟩
  | reserved _ hi => exact ⟨_, .reserved i hi, h.rejected _⟩
  | paintRejected sym pos hv => exact ⟨_, .paintRejected sym pos hv, h.rejected _⟩
  | symbolRejected sym pos hv => exact ⟨_, .symbolRejected sym pos hv, h.rejected _⟩
  | flushRejected hp => exact ⟨_, .flushRejected hp, h.rejected _⟩
  | paint sym pos hv => exact ⟨_, .paint sym pos hv, (h.startPass.paintGlyph sym pos.toNat s.foreground).setOk.respondStatus⟩
  | fill => exact ⟨_, .fill, ((h.fillBackground s.background).setPhase .idle).setOk.respondStatus⟩
  | flush a hp ha => exact ⟨_, .flush a hp ha, h.flushed a⟩
  | symbol sym pos a hv ha =>
    exact ⟨_, .symbol sym pos a hv ha,
      (((h.newPass.paintGlyph sym pos.toNat s.foreground).fillBackground s.background).setPhase .idle).flushed a⟩
  | text a ha =>
    exact ⟨_, .text a ha,
      (((h.newPass.composeText s.textCodes s.foreground).fillBackground s.background).setPhase .idle).flushed a⟩

end

/-- Settles O53: the two states wait, run the same transaction, or are reset together; a reset forgets the Frame Buffer. -/
theorem hiddenColumnsAreNeverObserved : Obligations.HiddenColumnsAreNeverObserved := by
  intro s t s' h hstep
  obtain ⟨fb, rfl, -⟩ := h.exists_fb
  obtain ⟨hv, ⟨hq, rfl⟩ | ⟨tr, i, rest, hq, rfl, he⟩ | ⟨rest, hq, rfl⟩⟩ := step_cases hstep
  · exact ⟨_, step_of_no_event hv hq, h⟩
  · obtain ⟨t', ht, ht'⟩ := Effect.of_visiblyEqual (h.setHostQueue rest) he
    exact ⟨t', step_of_effect hv hq ht, ht'⟩
  · exact ⟨_, step_of_reset hv hq, rfl, fun _ _ _ _ => rfl⟩

/-! ### What instructions leave alone (10_state R14 to R16, R25) -/

/-- Settles O16: of the cases of `Effect`, only a register write changes an operand register, and `writeReg` changes its own. -/
theorem operandRegistersKeepTheirLastWrite : Obligations.OperandRegistersKeepTheirLastWrite := by
  intro i s s' h
  cases exec_effect h <;> simp

/-- Settles O48: reads, register writes, rejections and a flush leave both grids, and a fill leaves the Mask. -/
theorem onlyPaintsAndFillsWriteTheGrids : Obligations.OnlyPaintsAndFillsWriteTheGrids := by
  intro i s s' h
  cases exec_effect h <;> simp

theorem Effect.keeps_config {i : Instr} {s s' : State} (h : Effect s i s') : s'.config = s.config := by
  cases h <;> simp

/-- Settles O49: every instruction and reset leave the configuration. -/
theorem configurationNeverChanges : Obligations.ConfigurationNeverChanges := fun s _ =>
  step_keeps (P := fun u => u.config = s.config) (fun _ _ hs => hs) (fun _ _ _ he hs => he.keeps_config.trans hs)
    (fun _ hs => hs) rfl

/-! ### CODE and TX_CODE (10_state R28) -/

theorem isCommand_of_mem_reservedInstrs : ∀ i ∈ reservedInstrs, i.isCommand = true := by decide

/-- Reads and register writes leave STATUS alone. -/
theorem Effect.keeps_status {i : Instr} {s s' : State} (h : Effect s i s') (hi : i.isCommand = false) :
    s'.code = s.code ∧ s'.txCode = s.txCode := by
  cases h with
  | reserved _ hmem => simp [isCommand_of_mem_reservedInstrs i hmem] at hi
  | _ => simp_all [Instr.isCommand]

section
variable (code : BitVec 4) (txCode : Byte) (s : State)

/-- A flush sets both fields from the reply (45_display R105). -/
theorem flushFrame_setStatus : flushFrame (s.setStatus code txCode) = flushFrame s := by
  have hanswer : (s.setStatus code txCode).nextAnswer = s.nextAnswer := rfl
  cases ha : s.nextAnswer with
  | never => simp [flushFrame, hanswer, ha]
  | reply a =>
    rw [flushFrame_of_reply ha, flushFrame_of_reply (hanswer.trans ha)]
    unfold State.takeReply
    split <;> rfl

theorem startPass_setStatus : startPass (s.setStatus code txCode) = (startPass s).setStatus code txCode := by
  unfold startPass
  rw [State.setStatus_phase]
  cases s.phase <;> rfl

/-- Every command sets both fields at its end and reads neither. -/
theorem exec_setStatus {i : Instr} (hi : i.isCommand = true) : exec i (s.setStatus code txCode) = exec i s := by
  cases i with
  | paint sym pos =>
    simp only [exec, execPaint, startPass_setStatus]
    split <;> rfl
  | displaySymbol sym pos =>
    simp only [exec, execDisplaySymbol]
    split
    · exact flushFrame_setStatus code txCode (symbolPicture sym pos s)
    · rfl
  | displayText => exact flushFrame_setStatus code txCode (textPicture s)
  | flush =>
    simp only [exec, execFlush, State.setStatus_phase, flushFrame_setStatus]
    split <;> rfl
  | rd _ | wrStatus _ | wrFgColor _ | wrBgColor _ | wrText0 _ | wrText1 _ | wrText2 _ | wrR7 _ => cases hi
  | _ => rfl

end

/-- Settles O17: reads and register writes are no commands, and every command overwrites both fields unread. -/
theorem statusIsWrittenByCommandsAloneAndReadByNone : Obligations.StatusIsWrittenByCommandsAloneAndReadByNone :=
  ⟨fun _ _ _ hi h => (exec_effect h).keeps_status hi, fun _ s code txCode hi => exec_setStatus code txCode s hi⟩

/-! ### PHASE (10_state R13) -/

/-- PHASE is bit 4 of STATUS (10_state R22). -/
theorem statusWord_bit4 (s : State) : s.statusWord.getLsbD 4 = true ↔ s.phase = .composing := by
  rw [State.statusWord_eq, BitVec.getLsbD_append, BitVec.getLsbD_append]
  cases s.phase <;> simp [Phase.bit]

/-- Settles O46: the cases of `Effect`, in which a valid position is one of 1 to 6. -/
theorem phaseFollowsTheTransitionTable : Obligations.PhaseFollowsTheTransitionTable := by
  refine ⟨fun i s s' h => ?_, statusWord_bit4⟩
  cases exec_effect h with
  | reserved _ hi =>
    cases i with
    | paint _ _ | fill | displayText | displaySymbol _ _ => exact absurd hi (by simp [reservedInstrs])
    | _ => simp
  | paint _ _ hv | symbol _ _ _ hv _ | paintRejected _ _ hv | symbolRejected _ _ hv => simp [← validPos_iff, hv]
  | _ => simp

/-! ### Reset (10_state R27) -/

/-- Settles O11: the fields of `State.reset`, and its two grids cell by cell. -/
theorem resetLeavesTheValuesOfTheSpec : Obligations.ResetLeavesTheValuesOfTheSpec :=
  ⟨rfl, rfl, rfl, rfl, rfl, rfl, rfl, rfl, by decide, fun r c _ _ => fbRead_reset r c, fun r c _ _ => maskRead_reset r c, rfl⟩

/-- Settles O52: STATUS is 0, the Frame Buffer is black, and the Mask has no mark. -/
theorem resetStateMeetsTheInvariants : Obligations.ResetStateMeetsTheInvariants :=
  ⟨reset_statusLegal, applyReset_backgroundUniform State.reset, fun r c _ _ hm => by simp at hm⟩

end Sys2Proof.Machine
end

section
/-! SUPPORT. The memory statements: accesses outside the grids (20_memory R35, R36), two transactions at once (R44), and that a
display command's picture is a function of the configuration and the operands (R34, 46_render R110, R111). -/

namespace Sys2Proof.Machine

/-! ### Accesses outside the grids (20_memory R35, R36) -/

theorem fbWrite_outside (fb : FrameBuffer) {s c : Nat} (p : Pixel) (h : ¬ (s ≤ 6 ∧ c ≤ 71)) : fbWrite fb s c p = fb :=
  dif_neg (by omega)

theorem maskWrite_outside (m : MaskGrid) {s c : Nat} (b : Bool) (h : ¬ (s ≤ 6 ∧ c ≤ 35)) : maskWrite m s c b = m :=
  dif_neg (by omega)

/-- `maskRead_outside` with the strips outside 0 to 6 too. -/
theorem maskRead_outside_grid (m : MaskGrid) {s c : Nat} (h : ¬ (s ≤ 6 ∧ c ≤ 35)) : maskRead m s c = false :=
  dif_neg (by omega)

/-- Settles O45: the bounds checks of the grid operations, and the cleared Mask. -/
theorem accessOutsideAGridIsDropped : Obligations.AccessOutsideAGridIsDropped :=
  ⟨fun fb _ _ p h => fbWrite_outside fb p h, fun m _ _ b h => ⟨maskWrite_outside m b h, maskRead_outside_grid m h⟩,
    maskRead_maskClear⟩

/-! ### Two transactions at once (20_memory R44) -/

theorem present_of_overlapping {s : State} {t u : Transaction} {rest : List HostEvent} (hv : s.config.valid = true)
    (hq : s.hostQueue = .overlapping t u :: rest) : present s = .refuse .overlappingTransactions := by
  simp [present, hv, hq]

/-- Settles O9: overlapping transactions have no presentation but the refusal. -/
theorem overlappingTransactionsAreRefused : Obligations.OverlappingTransactionsAreRefused := by
  intro s t u rest hv hq
  simp [step, present_of_overlapping hv hq]

/-! ### A pass that starts with a cleared Mask and ends with a fill shows nothing of the old Frame Buffer -/

section
variable (cfg : Config) (fg bg : Pixel) (p : Nat) (codes : List Byte)

/-- Paints do not look at the Frame Buffer to write the Mask. -/
theorem composeFrom_mask_congr {a b : Canvas} (h : b.mask = a.mask) :
    (composeFrom cfg fg p codes b).mask = (composeFrom cfg fg p codes a).mask := by
  refine mask_eq_of_read fun r c hr hc => Bool.eq_iff_iff.mpr ?_
  rw [composeFrom_mask _ _ _ _ _ _ _ hr hc, composeFrom_mask _ _ _ _ _ _ _ hr hc, h]

/-- After the fill a cell is ink or background: the Mask-true cells were all painted in this pass (43_fill R91). -/
theorem fillGrid_composeFrom_read {cv : Canvas} (hclear : cv.mask = maskClear) {r c : Nat} (hr : r < 7) (hc : c < 72) :
    fbRead (fillGrid (composeFrom cfg fg p codes cv).mask bg (composeFrom cfg fg p codes cv).fb) r c =
      if maskRead (composeFrom cfg fg p codes cv).mask r c then fg else bg := by
  have hink := composeFrom_ink cfg fg codes p cv fun r c _ _ hm => by simp [hclear] at hm
  rw [fillGrid_read _ _ _ _ _ hr hc]
  split
  · next hm => exact hink r c hr (col_lt_of_maskRead hm).2 hm
  · rfl

theorem fillGrid_composeFrom_congr {a b : Canvas} (ha : a.mask = maskClear) (hb : b.mask = maskClear) :
    fillGrid (composeFrom cfg fg p codes b).mask bg (composeFrom cfg fg p codes b).fb =
      fillGrid (composeFrom cfg fg p codes a).mask bg (composeFrom cfg fg p codes a).fb := by
  refine fb_eq_of_read fun r c hr hc => ?_
  rw [fillGrid_composeFrom_read _ _ _ _ _ hb hr hc, fillGrid_composeFrom_read _ _ _ _ _ ha hr hc,
    composeFrom_mask_congr _ _ _ _ (hb.trans ha.symm)]

end

/-! ### The picture of a display command is a function of the configuration and the operands -/

/-- The two states have one configuration and one content of the operand registers. -/
structure SameOperands (s t : State) : Prop where
  config : t.config = s.config
  fgColor : t.fgColor = s.fgColor
  bgColor : t.bgColor = s.bgColor
  text0 : t.text0 = s.text0
  text1 : t.text1 = s.text1
  text2 : t.text2 = s.text2

section
variable {s t : State} (h : SameOperands s t)
include h

theorem SameOperands.foreground : t.foreground = s.foreground := by simp [State.foreground, h.config, h.fgColor]

theorem SameOperands.background : t.background = s.background := by simp [State.background, h.config, h.bgColor]

theorem SameOperands.textCodes : t.textCodes = s.textCodes := by
  simp [State.textCodes, h.config, h.text0, h.text1, h.text2]

end

/-- `picture` composes both grids from the operands, which it keeps, whatever the grids held before; it emits nothing. -/
structure ComposesFromOperands (picture : State → State) : Prop where
  keeps (s : State) : SameOperands s (picture s)
  frames (s : State) : (picture s).frames = s.frames
  fb {s t : State} (h : SameOperands s t) : (picture t).fb = (picture s).fb
  mask {s t : State} (h : SameOperands s t) : (picture t).mask = (picture s).mask

theorem composeFrom_singleton (cfg : Config) (fg : Pixel) (p : Nat) (code : Byte) (cv : Canvas) :
    composeFrom cfg fg p [code] cv = paintCanvas cfg code p fg cv := rfl

/-- 46_render R110; the one paint is a paint loop over one code. -/
theorem symbolPicture_composesFromOperands (sym : Byte) (pos : BitVec 4) : ComposesFromOperands (symbolPicture sym pos) where
  keeps s := by constructor <;> simp
  frames s := by simp [symbolPicture]
  fb {s t} h := by
    simpa [composeFrom_singleton, symbolPicture, h.config, h.foreground, h.background] using
      fillGrid_composeFrom_congr s.config s.foreground s.background pos.toNat [sym]
        (a := (newPass s).canvas) (b := (newPass t).canvas) rfl rfl
  mask {s t} h := by
    simpa [composeFrom_singleton, symbolPicture, h.config, h.foreground] using
      composeFrom_mask_congr s.config s.foreground pos.toNat [sym] (a := (newPass s).canvas) (b := (newPass t).canvas) rfl

/-- 46_render R111. -/
theorem textPicture_composesFromOperands : ComposesFromOperands textPicture where
  keeps s := by constructor <;> simp
  frames s := by simp [textPicture]
  fb {s t} h := by
    simpa [textPicture, h.config, h.foreground, h.background, h.textCodes] using
      fillGrid_composeFrom_congr s.config s.foreground s.background 1 s.textCodes
        (a := (newPass s).canvas) (b := (newPass t).canvas) rfl rfl
  mask {s t} h := by
    simpa [textPicture, h.config, h.foreground, h.textCodes] using
      composeFrom_mask_congr s.config s.foreground 1 s.textCodes (a := (newPass s).canvas) (b := (newPass t).canvas) rfl

/-! ### A display command issued again (20_memory R34, 46_render R110 (d)) -/

@[simp] theorem flushed_frames (a : Byte) (s : State) : (flushed a s).frames = s.frames ++ [frameOf s.config s.fb] := by
  simp [flushed]

theorem SameOperands.flushed {s t : State} (h : SameOperands s t) (a : Byte) : SameOperands s (flushed a t) := by
  constructor <;> simp [h.config, h.fgColor, h.bgColor, h.text0, h.text1, h.text2]

/-- A flush keeps the operands, so the second picture is the first one, and so is its frame. -/
theorem reissue_of_composesFromOperands {picture : State → State} (hp : ComposesFromOperands picture) {s t u : State}
    (ht : flushFrame (picture s) = .next t) (hu : flushFrame (picture t) = .next u) :
    u.fb = t.fb ∧ u.mask = t.mask ∧ ∃ f, t.frames = s.frames ++ [f] ∧ u.frames = s.frames ++ [f] ++ [f] := by
  obtain ⟨a, -, rfl : t = flushed a (picture s)⟩ := flushFrame_next ht
  obtain ⟨b, -, rfl : u = flushed b (picture (flushed a (picture s)))⟩ := flushFrame_next hu
  have hsame : SameOperands s (flushed a (picture s)) := (hp.keeps s).flushed a
  have hconfig : (picture (flushed a (picture s))).config = (picture s).config := by
    rw [(hp.keeps _).config, hsame.config, (hp.keeps s).config]
  refine ⟨by simp [hp.fb hsame], by simp [hp.mask hsame], frameOf (picture s).config (picture s).fb, ?_, ?_⟩
  · simp [hp.frames]
  · simp [hp.frames, hconfig, hp.fb hsame]

theorem exec_displaySymbol_of_valid {sym : Byte} {pos : BitVec 4} (h : validPos pos = true) (s : State) :
    exec (.displaySymbol sym pos) s = flushFrame (symbolPicture sym pos s) := if_pos h

theorem exec_displayText (s : State) : exec .displayText s = flushFrame (textPicture s) := rfl

/-- Settles O38: both display commands flush a picture that is composed from the operands alone. -/
theorem reissuedDisplayEmitsAnEqualFrame : Obligations.ReissuedDisplayEmitsAnEqualFrame := by
  rintro i s t u (rfl | ⟨sym, pos, rfl, hpos⟩) ht hu
  · rw [exec_displayText] at ht hu
    exact reissue_of_composesFromOperands textPicture_composesFromOperands ht hu
  · have hv := (validPos_iff pos).mpr hpos
    rw [exec_displaySymbol_of_valid hv] at ht hu
    exact reissue_of_composesFromOperands (symbolPicture_composesFromOperands sym pos) ht hu

/-- The hypotheses of O38 for DISPLAY_SYMBOL, a failed reply first (`Tests` has the witness for DISPLAY_TEXT). -/
theorem exists_reissued_displaySymbol : ∃ s t u : State,
    exec (.displaySymbol 0x41 6) s = .next t ∧ exec (.displaySymbol 0x41 6) t = .next u :=
  ⟨{ State.reset with txReplies := [.reply 1, .reply 0] }, _, _, rfl, rfl⟩

end Sys2Proof.Machine
end

section
/-! SUPPORT. The encoding statements: decoder and encoder are inverse to each other but for the ignored bits (30_encoding R53, R56,
R60), the opcode map has one row for each transaction (R53), the assembler's sums are the encodings (R58), and every transaction
has one response (R51). -/

namespace Sys2Proof

/-! ### A word is the concatenation of its fields (30_encoding R50, R52) -/

theorem transaction_eq_append (t : Transaction) :
    t = BitVec.ofBool (t.getLsbD 19) ++ t.extractLsb' 16 3 ++ t.extractLsb' 0 16 := by
  have hbit : BitVec.ofBool (t.getLsbD 19) = t.extractLsb' 19 1 := BitVec.eq_of_getLsbD_eq fun k hk => by
    simp [show k = 0 by omega]
  rw [hbit, BitVec.extractLsb'_append_extractLsb'_eq_extractLsb' (by decide : 19 = 16 + 3),
    BitVec.extractLsb'_append_extractLsb'_eq_extractLsb' (by decide : 16 = 0 + 16), BitVec.extractLsb'_eq_self]

theorem commandWord_fields (w : Word) :
    commandWord (w.extractLsb' 12 4) (w.extractLsb' 8 4) (w.extractLsb' 0 8) = w := by
  rw [commandWord, BitVec.extractLsb'_append_extractLsb'_eq_extractLsb' (by decide : 12 = 8 + 4),
    BitVec.extractLsb'_append_extractLsb'_eq_extractLsb' (by decide : 8 = 0 + 8), BitVec.extractLsb'_eq_self]

theorem addr_ofAddr : ∀ a : BitVec 3, (HostReg.ofAddr a).addr = a := by decide

theorem addr_ne_zero {reg : HostReg} (h : reg ≠ .cmd) : reg.addr ≠ 0 := fun h0 =>
  h ((ofAddr_addr reg).symm.trans (congrArg HostReg.ofAddr h0))

theorem encodeCommand_we (op pos : BitVec 4) (sym : Byte) : (encodeCommand op pos sym).getLsbD 19 = true :=
  encodeWrite_we .cmd _

theorem encodeCommand_addr (op pos : BitVec 4) (sym : Byte) : (encodeCommand op pos sym).extractLsb' 16 3 = 0 :=
  encodeWrite_addr .cmd _

/-- OP is bits 15:12 of a command's transaction too. -/
theorem encodeCommand_op (op pos : BitVec 4) (sym : Byte) : (encodeCommand op pos sym).extractLsb' 12 4 = op := by
  refine BitVec.eq_of_getLsbD_eq fun k hk => ?_
  rw [BitVec.getLsbD_extractLsb', encodeCommand, getLsbD_encodeWrite, getLsbD_commandWord]
  simp [hk, show 12 + k < 16 by omega, show ¬ 12 + k < 8 by omega]

/-- A read with any data, a register write, or a command. -/
theorem transaction_forms (t : Transaction) :
    (∃ (a : BitVec 3) (x : Word), t = 0#1 ++ a ++ x) ∨ (∃ reg x, reg ≠ .cmd ∧ t = encodeWrite reg x) ∨
      ∃ op pos sym, t = encodeCommand op pos sym := by
  have ht := transaction_eq_append t
  cases hwe : t.getLsbD 19 with
  | false => exact .inl ⟨_, _, by rwa [hwe] at ht⟩
  | true =>
    have hwrite : t = encodeWrite (HostReg.ofAddr (t.extractLsb' 16 3)) (t.extractLsb' 0 16) := by
      rwa [hwe, ← addr_ofAddr (t.extractLsb' 16 3)] at ht
    by_cases hcmd : HostReg.ofAddr (t.extractLsb' 16 3) = .cmd
    · rw [hcmd, ← commandWord_fields (t.extractLsb' 0 16)] at hwrite
      exact .inr (.inr ⟨_, _, _, hwrite⟩)
    · exact .inr (.inl ⟨_, _, hcmd, hwrite⟩)

/-! ### The decoder on each form (30_encoding R60) -/

section
variable (a : BitVec 3) (x : Word)

theorem readWord_we : (0#1 ++ a ++ x).getLsbD 19 = false := by
  rw [BitVec.getLsbD_append, BitVec.getLsbD_append]
  rfl

theorem readWord_mask : (0#1 ++ a ++ x) &&& 0xF0000 = 0#1 ++ a ++ 0#16 := by
  show (0#1 ++ a ++ x) &&& (1#1 ++ BitVec.allOnes 3 ++ 0#16) = _
  rw [BitVec.and_append, BitVec.and_append, BitVec.and_allOnes, BitVec.and_zero, BitVec.zero_and]

theorem decode_read : decode (0#1 ++ a ++ x) = .rd (HostReg.ofAddr a) := by
  have haddr : (0#1 ++ a ++ x).extractLsb' 16 3 = a := by
    rw [BitVec.extractLsb'_append_eq_of_le (by decide), BitVec.extractLsb'_append_eq_right]
  simp only [decode, readWord_we, haddr]
  rfl

end

/-- The instruction of a write of `data` to `reg` (30_encoding R60). -/
def writeInstr (reg : HostReg) (data : Word) : Instr :=
  match reg with
  | .cmd => decodeCommand data
  | .status => .wrStatus data
  | .fgColor => .wrFgColor data
  | .bgColor => .wrBgColor data
  | .text0 => .wrText0 data
  | .text1 => .wrText1 data
  | .text2 => .wrText2 data
  | .r7 => .wrR7 data

theorem decode_encodeWrite (reg : HostReg) (data : Word) : decode (encodeWrite reg data) = writeInstr reg data := by
  simp only [decode, encodeWrite_we, encodeWrite_addr, encodeWrite_data, ofAddr_addr]
  rfl

theorem encode_writeInstr {reg : HostReg} (h : reg ≠ .cmd) (data : Word) :
    encode (writeInstr reg data) = encodeWrite reg data := by
  cases reg with
  | cmd => exact absurd rfl h
  | _ => rfl

/-- Only DISPLAY_SYMBOL and PAINT look at bits 11:0 of the command word (30_encoding R56). -/
theorem decodeCommand_ignores {op : BitVec 4} (h1 : op ≠ 1) (h3 : op ≠ 3) (pos : BitVec 4) (sym : Byte) :
    decodeCommand (commandWord op pos sym) = decodeCommand (commandWord op 0 0) := by
  simp only [decodeCommand, commandWord_op, commandWord_pos, commandWord_sym]
  split
  · next h => exact absurd (BitVec.eq_of_toNat_eq h) h1
  · rfl
  · next h => exact absurd (BitVec.eq_of_toNat_eq h) h3
  all_goals rfl

theorem encode_decodeCommand_zero :
    ∀ op : BitVec 4, encode (decodeCommand (commandWord op 0 0)) = encodeCommand op 0 0 := by decide

/-- The encoder writes the ignored bits of a command as zero. -/
theorem encode_decode_encodeCommand (op pos : BitVec 4) (sym : Byte) :
    encode (decode (encodeCommand op pos sym)) =
      if op = 1 ∨ op = 3 then encodeCommand op pos sym else encodeCommand op 0 0 := by
  rw [decode_encodeCommand]
  split
  · next h => obtain rfl | rfl := h <;> simp [decodeCommand, encode]
  · next h =>
    obtain ⟨h1, h3⟩ := not_or.mp h
    rw [decodeCommand_ignores h1 h3, encode_decodeCommand_zero]

/-! ### Round trips -/

/-- Settles O1: each instruction is a read, a register write or a command, and the decoder finds its operands in their fields. -/
theorem decodeInvertsEncode : Obligations.DecodeInvertsEncode := by
  intro i _
  cases i with
  | rd reg => exact (decode_read reg.addr 0).trans (by rw [ofAddr_addr])
  | wrStatus d | wrFgColor d | wrBgColor d | wrText0 d | wrText1 d | wrText2 d | wrR7 d => exact decode_encodeWrite _ d
  | _ => simp [encode, decode_encodeCommand, decodeCommand]

/-- Settles O2: by the form of the transaction; the two masks keep all but the ignored bits. -/
theorem encodeInvertsDecodeUpToIgnoredBits : Obligations.EncodeInvertsDecodeUpToIgnoredBits := by
  intro t
  obtain ⟨a, x, rfl⟩ | ⟨reg, x, hreg, rfl⟩ | ⟨op, pos, sym, rfl⟩ := transaction_forms t
  · rw [decode_read, if_pos (readWord_we a x), readWord_mask, encode, addr_ofAddr]
  · rw [if_neg (by rw [encodeWrite_we]; decide), encodeWrite_addr, if_pos (addr_ne_zero hreg), decode_encodeWrite,
      encode_writeInstr hreg]
  · rw [if_neg (by rw [encodeCommand_we]; decide), if_neg (by rw [encodeCommand_addr]; decide), encodeCommand_op,
      Laws.EncodesUnderItsRow.mask_high8, encode_decode_encodeCommand]

/-! ### The opcode map (30_encoding R53) -/

theorem mnemonic_decodeCommand_congr {v w : Word} (hop : v.extractLsb' 12 4 = w.extractLsb' 12 4) :
    (decodeCommand v).mnemonic = (decodeCommand w).mnemonic := by
  unfold decodeCommand
  rw [hop]
  split <;> rfl

/-- A field of a field is a field of the word. -/
theorem extractLsb'_of_field {w k n start len : Nat} (x : BitVec w) (h : start + len ≤ n) :
    (x.extractLsb' k n).extractLsb' start len = x.extractLsb' (k + start) len := by
  refine BitVec.eq_of_getLsbD_eq fun j hj => ?_
  simp [hj, show start + j < n by omega, Nat.add_assoc]

/-- Bits 19:12 are WE, ADDR and, in a write to CMD, OP: they decide the row. -/
theorem mnemonic_decode_congr {t u : Transaction} (h : t.extractLsb' 12 8 = u.extractLsb' 12 8) :
    (decode t).mnemonic = (decode u).mnemonic := by
  have hwe : t.getLsbD 19 = u.getLsbD 19 := by simpa using congrArg (·.getLsbD 7) h
  have haddr : t.extractLsb' 16 3 = u.extractLsb' 16 3 := by
    simpa only [extractLsb'_of_field _ (by decide : 4 + 3 ≤ 8)] using congrArg (·.extractLsb' 4 3) h
  have hop : (t.extractLsb' 0 16).extractLsb' 12 4 = (u.extractLsb' 0 16).extractLsb' 12 4 := by
    simpa only [extractLsb'_of_field _ (by decide : 12 + 4 ≤ 16), extractLsb'_of_field _ (by decide : 0 + 4 ≤ 8)] using
      congrArg (·.extractLsb' 0 4) h
  unfold decode
  rw [hwe, haddr]
  split
  · split
    · exact mnemonic_decodeCommand_congr hop
    all_goals rfl
  · rfl

theorem and_high8 (t : Transaction) : t &&& 0xFF000 = t.extractLsb' 12 8 ++ 0#12 := by
  have ht : t = t.extractLsb' 12 8 ++ t.extractLsb' 0 12 :=
    (BitVec.extractLsb'_append_extractLsb' (w := 8) (len := 12)).symm
  calc
    t &&& 0xFF000 = (t.extractLsb' 12 8 ++ t.extractLsb' 0 12) &&& (BitVec.allOnes 8 ++ 0#12) := congrArg (· &&& 0xFF000) ht
    _ = t.extractLsb' 12 8 ++ 0#12 := by rw [BitVec.and_append, BitVec.and_allOnes, BitVec.and_zero]

/-- The mnemonics of the rows that select `t`. -/
def selectedRows (t : Transaction) : List String :=
  (opcodeRows.filter fun row => t &&& row.2.2 == row.2.1).map (·.1)

/-- No row's mask has a bit below bit 12. -/
theorem selectedRows_and_high8 (t : Transaction) : selectedRows (t &&& 0xFF000) = selectedRows t := by
  have hmask : ∀ row ∈ opcodeRows, 0xFF000 &&& row.2.2 = row.2.2 := by decide
  refine congrArg (List.map _) (List.filter_congr fun row hrow => ?_)
  rw [BitVec.and_assoc, hmask row hrow]

/-- The map itself, over the 256 values of bits 19:12. -/
theorem selectedRows_high8 : ∀ h : BitVec 8, selectedRows (h ++ 0#12) = [(decode (h ++ 0#12)).mnemonic] := by decide +kernel

/-- Settles O3: the rows and the decoder look at bits 19:12 only. -/
theorem everyTransactionSelectsItsOneRow : Obligations.EveryTransactionSelectsItsOneRow := by
  intro t
  have hmnemonic : (decode t).mnemonic = (decode (t.extractLsb' 12 8 ++ 0#12)).mnemonic :=
    mnemonic_decode_congr BitVec.extractLsb'_append_eq_left.symm
  rw [hmnemonic, ← selectedRows_high8, ← and_high8, selectedRows_and_high8, selectedRows]

/-! ### Ignored bits (30_encoding R56) -/

theorem command_eq_append (op : BitVec 4) (x : BitVec 12) :
    encodeCommand op (x.extractLsb' 8 4) (x.extractLsb' 0 8) = 0x8#4 ++ op ++ x := by
  have hword : commandWord op (x.extractLsb' 8 4) (x.extractLsb' 0 8) = op ++ x := by
    rw [commandWord, BitVec.append_assoc, BitVec.extractLsb'_append_extractLsb']
    rfl
  rw [encodeCommand, hword, BitVec.append_assoc]
  rfl

/-- A command other than DISPLAY_SYMBOL and PAINT, whatever its bits 11:0. -/
theorem decode_command_ignores {op : BitVec 4} (h1 : op ≠ 1) (h3 : op ≠ 3) (x : BitVec 12) :
    decode (0x8#4 ++ op ++ x) = decodeCommand (commandWord op 0 0) := by
  rw [← command_eq_append, decode_encodeCommand, decodeCommand_ignores h1 h3]

end Sys2Proof

namespace Sys2Proof.Machine

theorem exec_decode_writeStatus (d : Word) (s : State) : exec (decode (0x9#4 ++ d)) s = .next (s.respond 0) :=
  (congrArg (exec · s) (decode_encodeWrite .status d)).trans (exec_of_effect (.writeStatus d))

theorem exec_decode_writeR7 (d : Word) (s : State) : exec (decode (0xF#4 ++ d)) s = .next (s.respond 0) :=
  (congrArg (exec · s) (decode_encodeWrite .r7 d)).trans (exec_of_effect (.writeR7 d))

/-- Settles O4: no ignored bit is an operand of the decoded instruction, and the two ignored writes answer alike whatever the
data. -/
theorem ignoredBitsMakeNoDifference : Obligations.IgnoredBitsMakeNoDifference := by
  refine ⟨fun x => ⟨?_, ?_, ?_⟩, fun a x y => ?_, fun x y s => ⟨?_, ?_⟩⟩
  · exact decode_command_ignores (op := 2) (by decide) (by decide) x
  · exact decode_command_ignores (op := 4) (by decide) (by decide) x
  · exact decode_command_ignores (op := 5) (by decide) (by decide) x
  · rw [decode_read, decode_read]
  · rw [exec_decode_writeStatus, exec_decode_writeStatus]
  · rw [exec_decode_writeR7, exec_decode_writeR7]

/-! ### The assembler (30_encoding R58) -/

theorem toNat_append_eq_add {m n : Nat} (x : BitVec m) (y : BitVec n) : (x ++ y).toNat = x.toNat * 2 ^ n + y.toNat := by
  rw [BitVec.toNat_append, ← Nat.shiftLeft_add_eq_or_of_lt y.isLt, Nat.shiftLeft_eq]

theorem toNat_encodeWrite (reg : HostReg) (data : Word) :
    (encodeWrite reg data).toNat = 2 ^ 19 + reg.addr.toNat * 2 ^ 16 + data.toNat := by
  simp only [encodeWrite, toNat_append_eq_add, BitVec.toNat_ofNat]
  omega

theorem toNat_commandWord (op pos : BitVec 4) (sym : Byte) :
    (commandWord op pos sym).toNat = op.toNat * 2 ^ 12 + pos.toNat * 2 ^ 8 + sym.toNat := by
  simp only [commandWord, toNat_append_eq_add]
  omega

/-- The fields of a write do not overlap, so their sum is their concatenation. -/
theorem assemble_wr (reg : HostReg) (imm : Word) : (AsmLine.wr reg imm).assemble = encodeWrite reg imm := by
  refine BitVec.eq_of_toNat_eq ?_
  rw [toNat_encodeWrite]
  simp [AsmLine.assemble, addrBits, Nat.shiftLeft_eq]
  omega

/-- The fields of a command do not overlap. -/
theorem commandSum_eq (op pos : BitVec 4) (sym : Byte) :
    0x80000 + (op.setWidth 20 <<< 12) + (pos.setWidth 20 <<< 8) + sym.setWidth 20 = encodeCommand op pos sym := by
  refine BitVec.eq_of_toNat_eq ?_
  rw [encodeCommand, toNat_encodeWrite, toNat_commandWord]
  simp [HostReg.addr, Nat.shiftLeft_eq]
  omega

theorem assemble_rd : ∀ reg, (AsmLine.rd reg).assemble = encode (.rd reg) := by
  intro reg
  cases reg <;> decide

/-- Settles O6: every line is a sum of fields that do not overlap; a named line is the write of its command word. -/
theorem assemblerLinesAreTheEncodings : Obligations.AssemblerLinesAreTheEncodings := by
  refine ⟨fun sym pos => ?_, rfl, rfl, rfl, rfl, rfl, rfl, assemble_rd, fun imm =>
    ⟨assemble_wr _ imm, assemble_wr _ imm, assemble_wr _ imm, assemble_wr _ imm, assemble_wr _ imm, assemble_wr _ imm,
      assemble_wr _ imm⟩⟩
  have hdsym : (AsmLine.dsym sym pos).assemble = encodeCommand 1 pos sym := commandSum_eq 1 pos sym
  have hpaint : (AsmLine.paint sym pos).assemble = encodeCommand 3 pos sym := commandSum_eq 3 pos sym
  rw [hdsym, hpaint]
  exact ⟨rfl, rfl, assemble_wr .cmd _, assemble_wr .cmd _⟩

/-! ### Responses (30_encoding R51) -/

@[simp] theorem State.respondStatus_statusWord (s : State) : s.respondStatus.statusWord = s.statusWord := rfl

/-- Every command ends with `RESP <- STATUS` and responds nothing before (47_host R123). -/
theorem Effect.ends_with_status {i : Instr} {s s' : State} (h : Effect s i s') (hi : i.isCommand = true) :
    ∃ u : State, s' = u.respondStatus ∧ u.responses = s.responses := by
  cases h with
  | read _ | writeStatus _ | writeFgColor _ | writeBgColor _ | writeText0 _ | writeText1 _ | writeText2 _ | writeR7 _ =>
    cases hi
  | symbol sym pos a _ _ => exact ⟨_, rfl, by simp [symbolPicture]⟩
  | text a _ => exact ⟨_, rfl, by simp [textPicture]⟩
  | _ => exact ⟨_, rfl, by simp⟩

/-- Settles O18: a command answers STATUS, of the state it leaves; the other instructions answer once, by their cases. -/
theorem everyTransactionReturnsOneResponse : Obligations.EveryTransactionReturnsOneResponse := by
  intro i s s' h
  have he := exec_effect h
  cases hi : i.isCommand with
  | true =>
    obtain ⟨u, rfl, hu⟩ := he.ends_with_status hi
    simp [hu]
  | false =>
    cases he with
    | read _ | writeStatus _ | writeFgColor _ | writeBgColor _ | writeText0 _ | writeText1 _ | writeText2 _ | writeR7 _ => rfl
    | reserved _ hmem => exact absurd (isCommand_of_mem_reservedInstrs i hmem) (by simp [hi])
    | _ => cases hi

/-! ### Words of the spec (95_test_vectors B7) -/

/-- Settles O5: each word decoded. -/
theorem wordsOfTheSpecDecode : Obligations.WordsOfTheSpecDecode :=
  ⟨rfl, rfl, rfl, rfl, rfl, rfl, rfl, rfl, rfl, rfl, rfl, rfl, rfl, rfl, rfl⟩

end Sys2Proof.Machine
end

section
/-! SUPPORT. The font table statements: which bits of a stored glyph are ink (40_font R71), what an undefined code paints (R72), and
the ink of the default font (R73). -/

namespace Sys2Proof.Machine

/-! ### Ink (40_font R71) -/

/-- Settles O40: a row is bits 4:0 of its stored byte, so its bit 4 - k is the byte's. -/
theorem inkIsTheLowFiveBitsOfAStoredRow : Obligations.InkIsTheLowFiveBitsOfAStoredRow := by
  refine ⟨fun cfg code r k hr _ => ?_, rfl⟩
  have hrow : fontRead cfg code r = (cfg.font[code.toNat][r]).extractLsb' 0 5 := dif_pos hr
  rw [ink, hrow, BitVec.getLsbD_extractLsb', Nat.zero_add]
  simp [show 4 - k < 5 by omega]

/-! ### Undefined codes (40_font R72) -/

/-- The code has no ink under the configuration. -/
def BlankCode (cfg : Config) (code : Byte) : Prop := ∀ r, r < 7 → fontRead cfg code r = 0

theorem blankCode_of_undefined {cfg : Config} {code : Byte} (hv : cfg.valid = true)
    (h : code.toNat < 0x20 ∨ 0x7F < code.toNat) : BlankCode cfg code := by
  obtain ⟨hfont, _, _⟩ := (valid_iff cfg).mp hv
  exact (fontBlankOutside_iff cfg).mp hfont code h

section
variable {cfg : Config} {code : Byte} (hblank : BlankCode cfg code)
include hblank

theorem BlankCode.lookup : lookup cfg code = [0, 0, 0, 0, 0, 0, 0] :=
  List.map_congr_left fun r hr => hblank r (List.mem_range.mp hr)

theorem BlankCode.ink {r : Nat} (hr : r < 7) (k : Nat) : ink cfg code r k = false := by
  rw [Machine.ink, hblank r hr]
  exact BitVec.getLsbD_zero

theorem BlankCode.paintCanvas_fb (p : Nat) (fg : Pixel) (cv : Canvas) : (paintCanvas cfg code p fg cv).fb = cv.fb := by
  refine fb_eq_of_read fun r c hr hc => ?_
  rw [Machine.paintCanvas_fb _ _ _ _ _ _ _ hr hc, hblank.ink hr]
  simp

/-- A slot that lies partly outside the Mask reads false there (20_memory R36). -/
theorem BlankCode.paintCanvas_mask {p r c : Nat} (hr : r < 7) (hc : Config.covers cfg p c) (fg : Pixel) (cv : Canvas) :
    maskRead (paintCanvas cfg code p fg cv).mask r c = false := by
  obtain ⟨hleft, hright⟩ := hc
  by_cases hcol : c < 36
  · rw [Machine.paintCanvas_mask _ _ _ _ _ _ _ hr hcol, if_pos ⟨hleft, Nat.lt_succ_of_le hright⟩, hblank.ink hr]
  · exact maskRead_outside _ r c (Nat.le_of_not_lt hcol)

end

/-- Settles O26: a valid configuration has no ink in an undefined code, and a paint without ink writes false marks only. -/
theorem undefinedCodePaintsBlank : Obligations.UndefinedCodePaintsBlank := by
  intro sym s hv hsym
  have hblank := blankCode_of_undefined hv hsym
  refine ⟨hblank.lookup, fun pos hlow hhigh =>
    ⟨_, exec_of_effect (.paint sym pos ((validPos_iff pos).mpr ⟨hlow, hhigh⟩)), ?_, ?_, fun r c hr hc => ?_⟩⟩
  · simp
  · simp [hblank.paintCanvas_fb]
  · simpa using hblank.paintCanvas_mask hr hc s.foreground (startPass s).canvas

/-! ### The default font (40_font R73) -/

/-- Settles O41: the ink bits counted over the whole table, and one glyph read out of it. -/
theorem defaultFontHasTheInkOfTheReferenceFont : Obligations.DefaultFontHasTheInkOfTheReferenceFont :=
  ⟨by decide +kernel, by decide +kernel⟩

end Sys2Proof.Machine
end

section
/-! SUPPORT. The colour converter statement: the default converter is the bit replication of 41_color R76, and each field stands
unchanged in the top bits of its channel (R77 (c)). -/

namespace Sys2Proof.Machine

/-! ### The default tables (41_color R76) -/

/-- The entry of a table at `k` is the value of its function there. -/
@[simp] theorem getElem_tableOf {α : Type} {n : Nat} (f : Nat → α) {k : Nat} (hk : k < n) : (tableOf n f)[k] = f k := by
  simp [tableOf]

theorem replicate5_toNat : ∀ f : BitVec 5, replicate5 f.toNat = f ++ f.extractLsb' 2 3 := by decide

theorem replicate6_toNat : ∀ f : BitVec 6, replicate6 f.toNat = f ++ f.extractLsb' 4 2 := by decide

/-- Under the default configuration each channel is its field followed by that field's own top bits. -/
theorem convert_default (x : Word) : convert defaultConfig x =
    ⟨redField x ++ (redField x).extractLsb' 2 3, greenField x ++ (greenField x).extractLsb' 4 2,
      blueField x ++ (blueField x).extractLsb' 2 3⟩ := by
  simp only [convert, defaultConfig, getElem_tableOf, replicate5_toNat, replicate6_toNat]

/-! ### The fields of a colour (41_color R75) -/

theorem colorFields_append (x : Word) : redField x ++ greenField x ++ blueField x = x := by
  rw [redField, greenField, blueField, BitVec.extractLsb'_append_extractLsb'_eq_extractLsb' (by decide : 11 = 5 + 6),
    BitVec.extractLsb'_append_extractLsb'_eq_extractLsb' (by decide : 5 = 0 + 5), BitVec.extractLsb'_eq_self]

/-- A field of a field is a field of the word. -/
theorem extractLsb'_of_extractLsb' {n w len start k : Nat} (h : k + len ≤ w) (x : BitVec n) :
    (x.extractLsb' start w).extractLsb' k len = x.extractLsb' (start + k) len := by
  refine BitVec.eq_of_getLsbD_eq fun i hi => ?_
  simp [hi, show k + i < w by omega, Nat.add_assoc]

/-- Settles O42: the bits replicated in a channel are the top bits of its field; the bits above them are the field, and the three
fields make up the word. -/
theorem defaultConverterReplicatesBits : Obligations.DefaultConverterReplicatesBits := by
  intro x
  have hred : (redField x).extractLsb' 2 3 = x.extractLsb' 13 3 := extractLsb'_of_extractLsb' (by decide) x
  have hgreen : (greenField x).extractLsb' 4 2 = x.extractLsb' 9 2 := extractLsb'_of_extractLsb' (by decide) x
  have hblue : (blueField x).extractLsb' 2 3 = x.extractLsb' 2 3 := extractLsb'_of_extractLsb' (by decide) x
  rw [convert_default]
  refine ⟨by rw [hred, hgreen, hblue]; rfl, ?_⟩
  simp only [BitVec.extractLsb'_append_eq_left, colorFields_append]

end Sys2Proof.Machine
end

section
/-! SUPPORT. The rasterizer statements: which cells a PAINT writes (42_glyph R80 to R83), and that every step keeps the marks of the
Mask inside the six slots (R83, 10_state R15). -/

namespace Sys2Proof.Machine

/-! ### The marks of the Mask lie in the slots -/

/-- Every Mask-true cell of `m` lies in one of the six slots of `cfg`: the part of a state that `MaskInSlots` reads. -/
def MarksInSlots (cfg : Config) (m : MaskGrid) : Prop :=
  ∀ r c, r < 7 → c < 36 → maskRead m r c = true → ∃ p, 1 ≤ p ∧ p ≤ 6 ∧ Config.covers cfg p c

theorem maskInSlots_iff (s : State) : s.MaskInSlots ↔ MarksInSlots s.config s.mask := Iff.rfl

/-- A cleared Mask has no mark (20_memory R36). -/
theorem marksInSlots_maskClear (cfg : Config) : MarksInSlots cfg maskClear := fun r c _ _ hm => by simp at hm

/-- A mark after the paint loop is a mark of one of the positions it painted, or it was there before (44_text R96). -/
theorem MarksInSlots.composeFrom {cfg : Config} {cv : Canvas} (h : MarksInSlots cfg cv.mask) (fg : Pixel) {p : Nat}
    {codes : List Byte} (hlow : 1 ≤ p) (hhigh : p + codes.length ≤ 7) :
    MarksInSlots cfg (composeFrom cfg fg p codes cv).mask := by
  intro r c hr hc hm
  obtain ⟨i, hi, hcov, -, -⟩ | ⟨hold, -⟩ := (composeFrom_mask _ _ _ _ _ _ _ hr hc).mp hm
  · exact ⟨p + i, by omega, by omega, hcov⟩
  · exact h r c hr hc hold

/-- One paint is a paint loop over one code. -/
theorem MarksInSlots.paintCanvas {cfg : Config} {cv : Canvas} (h : MarksInSlots cfg cv.mask) (sym : Byte) (fg : Pixel)
    {pos : BitVec 4} (hpos : validPos pos = true) : MarksInSlots cfg (paintCanvas cfg sym pos.toNat fg cv).mask := by
  obtain ⟨hlow, hhigh⟩ := (validPos_iff pos).mp hpos
  exact h.composeFrom (codes := [sym]) fg hlow (Nat.succ_le_succ hhigh)

/-- A PAINT starts with the Mask cleared or kept (42_glyph R82). -/
theorem MarksInSlots.startPass {s : State} (h : MarksInSlots s.config s.mask) : MarksInSlots s.config (startPass s).mask := by
  rw [startPass_mask]
  split
  · exact marksInSlots_maskClear s.config
  · exact h

/-- The payload has a code for each of the six positions (44_text R95). -/
theorem length_textCodes (s : State) : s.textCodes.length = 6 := by
  unfold State.textCodes decodePayload wordCodes
  cases s.config.payloadHighFirst <;> rfl

/-- PAINT and the display commands mark cells of the positions they paint only, and no other instruction writes the Mask. -/
theorem Effect.keeps_maskInSlots {i : Instr} {s s' : State} (h : Effect s i s') (hs : s.MaskInSlots) : s'.MaskInSlots := by
  rw [maskInSlots_iff] at hs ⊢
  cases h with
  | paint sym pos hpos => simpa using hs.startPass.paintCanvas (cv := (startPass s).canvas) sym s.foreground hpos
  | symbol sym pos a hpos _ =>
    simpa [symbolPicture] using
      (marksInSlots_maskClear s.config).paintCanvas (cv := (newPass s).canvas) sym s.foreground hpos
  | text a _ =>
    simpa [textPicture] using (marksInSlots_maskClear s.config).composeFrom (cv := (newPass s).canvas) s.foreground
      (p := 1) (codes := s.textCodes) (by decide) (by rw [length_textCodes])
  | _ => simpa using hs

/-- The Mask of a reset machine has no mark (10_state R27). -/
theorem applyReset_maskInSlots (s : State) : s.applyReset.MaskInSlots := marksInSlots_maskClear s.config

/-- Settles O51: a paint marks cells of its own slot only, and a pass or a reset that clears the Mask leaves no mark. -/
theorem everyStepKeepsTheMaskInsideTheSlots : Obligations.EveryStepKeepsTheMaskInsideTheSlots :=
  fun _ _ => step_keeps (fun _ _ hs => hs) (fun _ _ _ => Effect.keeps_maskInSlots) (fun s _ => applyReset_maskInSlots s)

/-! ### PAINT (42_glyph R80 to R83) -/

/-- The state a PAINT at a valid position leaves: both grids are the canvas of the pass, painted. -/
theorem exec_paint_of_valid {pos : BitVec 4} (hpos : validPos pos = true) (sym : Byte) (s : State) :
    exec (.paint sym pos) s = .next
      { s with
        code := 0, txCode := 0, phase := .composing, responses := s.responses ++ [0x0010]
        fb := (paintCanvas s.config sym pos.toNat s.foreground (startPass s).canvas).fb
        mask := (paintCanvas s.config sym pos.toNat s.foreground (startPass s).canvas).mask } := by
  rw [exec_of_effect (.paint sym pos hpos)]
  congr 1
  apply State.ext_fields <;> simp [State.statusWord_eq, Phase.bit]

/-- Settles O25: the fields by `exec_paint_of_valid`, the cells of the two grids by the laws of a paint. -/
theorem paintWritesItsSlot : Obligations.PaintWritesItsSlot := by
  intro sym pos s hlow hhigh
  refine ⟨_, exec_paint_of_valid ((validPos_iff pos).mpr ⟨hlow, hhigh⟩) sym s, rfl, fun r c hr hc => ?_, fun r c hr hc => ?_⟩
  · rw [paintCanvas_fb _ _ _ _ _ _ _ hr hc]
    simp [Nat.lt_succ_iff, and_assoc, State.foreground]
  · rw [paintCanvas_mask _ _ _ _ _ _ _ hr hc]
    simp [Nat.lt_succ_iff, startPass_mask, apply_ite (maskRead · r c)]

end Sys2Proof.Machine
end

section
/-! SUPPORT. The fill statements: which cells a FILL writes, that a second one changes nothing, and that a PAINT and a FILL leave
ink and background (43_fill R90, R91, R93). -/

namespace Sys2Proof.Machine

/-! ### FILL (43_fill R90, R91) -/

/-- The state a FILL leaves, in either phase: the Mask is kept and the Frame Buffer filled around it. -/
theorem exec_fill (s : State) :
    exec .fill s = .next
      { s with
        code := 0, txCode := 0, phase := .idle, fb := fillGrid s.mask s.background s.fb
        responses := s.responses ++ [0x0000] } := by
  rw [exec_of_effect .fill]
  congr 1
  apply State.ext_fields <;> simp [State.statusWord_eq, Phase.bit]

/-- A fill has already given every Mask-false cell the background that a second fill gives it. -/
theorem fillGrid_idem (m : MaskGrid) (bg : Pixel) (fb : FrameBuffer) :
    fillGrid m bg (fillGrid m bg fb) = fillGrid m bg fb := by
  refine fb_eq_of_read fun r c hr hc => ?_
  rw [fillGrid_read _ _ _ _ _ hr hc, fillGrid_read _ _ _ _ _ hr hc]
  cases maskRead m r c <;> rfl

/-- Settles O27: the fields by `exec_fill`, the cells by `fillGrid_read`; a Mask-true cell lies in columns 0 to 35. -/
theorem fillWritesEveryMaskFalseCell : Obligations.FillWritesEveryMaskFalseCell := by
  intro s
  refine ⟨_, exec_fill s, rfl, fun r c hr hc => ?_⟩
  have hcol : (c ≤ 35 ∧ maskRead s.mask r c = true) ↔ maskRead s.mask r c = true :=
    and_iff_right_of_imp fun hm => Nat.le_of_lt_succ (col_lt_of_maskRead hm).2
  simp only [hcol]
  exact fillGrid_read _ _ _ _ _ hr hc

/-- Settles O28: a FILL keeps the Mask and BG_COLOR, so that the second one repeats the fill of the first. -/
theorem repeatedFillIsIdempotent : Obligations.RepeatedFillIsIdempotent := by
  intro s t u hst htu
  rw [exec_fill] at hst
  cases hst
  rw [exec_fill] at htu
  cases htu
  exact ⟨fillGrid_idem s.mask s.background s.fb, rfl⟩

/-! ### A PAINT, then a FILL (43_fill R93) -/

/-- A sequence whose first instruction answers a next state goes on from it. -/
theorem execAll_cons_of_next {i : Instr} {s s' : State} (h : exec i s = .next s') (rest : List Instr) :
    execAll (i :: rest) s = execAll rest s' := by
  rw [execAll, h]

/-- The state a PAINT at a valid position and a FILL leave: both grids are the canvas of the pass, painted and then filled. -/
theorem execAll_paint_fill {pos : BitVec 4} (hpos : validPos pos = true) (sym : Byte) (s : State) :
    let painted := paintCanvas s.config sym pos.toNat s.foreground (startPass s).canvas
    execAll [.paint sym pos, .fill] s = .next
      { s with
        code := 0, txCode := 0, phase := .idle, responses := s.responses ++ [0x0010] ++ [0x0000]
        fb := fillGrid painted.mask s.background painted.fb
        mask := painted.mask } := by
  intro painted
  rw [execAll_cons_of_next (exec_paint_of_valid hpos sym s), execAll_cons_of_next (exec_fill _)]
  rfl

/-- After a paint the marked cells of the slot hold the foreground, and every marked cell does if the Mask was clear before
(42_glyph R83). -/
theorem paintCanvas_fb_of_marked {cfg : Config} {sym : Byte} {p r c : Nat} {fg : Pixel} {cv : Canvas}
    (h : cv.mask = maskClear ∨ Config.covers cfg p c) (hm : maskRead (paintCanvas cfg sym p fg cv).mask r c = true) :
    fbRead (paintCanvas cfg sym p fg cv).fb r c = fg := by
  obtain ⟨hr, hc⟩ := col_lt_of_maskRead hm
  rw [paintCanvas_mask _ _ _ _ _ _ _ hr hc] at hm
  rw [paintCanvas_fb _ _ _ _ _ _ _ hr (by omega)]
  by_cases hcov : slotCol cfg p ≤ c ∧ c < slotCol cfg p + 5
  · rw [if_pos hcov] at hm
    exact if_pos ⟨hcov, hm⟩
  · rw [if_neg hcov] at hm
    obtain hclear | ⟨hleft, hright⟩ := h
    · simp [hclear] at hm
    · exact absurd ⟨hleft, Nat.lt_succ_of_le hright⟩ hcov

/-- Settles O29: the fill decides the Mask-false cells and keeps the Mask-true ones, which the paint gave the foreground; a PAINT
in IDLE starts with a clear Mask. -/
theorem paintThenFillSeparatesInkFromBackground : Obligations.PaintThenFillSeparatesInkFromBackground := by
  intro sym pos s t hlow hhigh h r c hr hc
  rw [execAll_paint_fill ((validPos_iff pos).mpr ⟨hlow, hhigh⟩)] at h
  cases h
  refine ⟨fun hm => ?_, fun hm hcase => ?_⟩
  · exact (fillGrid_read _ _ _ _ _ hr hc).trans (if_neg (by simp [hm]))
  · have hstart : (startPass s).canvas.mask = maskClear ∨ Config.covers s.config pos.toNat c :=
      hcase.imp_left fun hidle => (startPass_mask s).trans (if_pos hidle)
    calc fbRead (fillGrid _ s.background _) r c
      _ = fbRead (paintCanvas s.config sym pos.toNat s.foreground (startPass s).canvas).fb r c :=
        (fillGrid_read _ _ _ _ _ hr hc).trans (if_pos hm)
      _ = s.foreground := paintCanvas_fb_of_marked hstart hm

end Sys2Proof.Machine
end

section
/-! SUPPORT. The payload statement: the codes of one payload word in both byte orders, and that packing two codes into a word and
decoding it gives them back (44_text R95). -/

namespace Sys2Proof.Machine

/-! ### The text payload (44_text R95) -/

@[simp] theorem wordCodes_highFirst (w : Word) : wordCodes true w = [w.extractLsb' 8 8, w.extractLsb' 0 8] := rfl

@[simp] theorem wordCodes_lowFirst (w : Word) : wordCodes false w = [w.extractLsb' 0 8, w.extractLsb' 8 8] := rfl

/-- The two codes of a payload word do not overlap, so their sum is their concatenation. -/
theorem payloadWord_eq_append (c1 c2 : Byte) : payloadWord c1 c2 = c1 ++ c2 := by
  refine BitVec.eq_of_toNat_eq ?_
  rw [toNat_append_eq_add]
  simp only [payloadWord, BitVec.toNat_add, BitVec.toNat_shiftLeft, BitVec.toNat_setWidth, Nat.shiftLeft_eq]
  omega

theorem wordCodes_payloadWord (c1 c2 : Byte) : wordCodes true (payloadWord c1 c2) = [c1, c2] := by
  rw [payloadWord_eq_append, wordCodes_highFirst, BitVec.extractLsb'_append_eq_left, BitVec.extractLsb'_append_eq_right]

theorem decodePayload_payloadWord (c1 c2 c3 c4 c5 c6 : Byte) :
    decodePayload true (payloadWord c1 c2) (payloadWord c3 c4) (payloadWord c5 c6) = [c1, c2, c3, c4, c5, c6] := by
  simp only [decodePayload, wordCodes_payloadWord, List.cons_append, List.nil_append]

/-- Settles O44: the byte orders word by word; the inverse and the example, whose words are packed codes, by
`decodePayload_payloadWord`. -/
theorem payloadDecodesToSixCodes : Obligations.PayloadDecodesToSixCodes := by
  refine ⟨fun w0 w1 w2 => ⟨?_, ?_⟩, decodePayload_payloadWord, ?_⟩
  · simp [decodePayload]
  · simp [decodePayload]
  · exact decodePayload_payloadWord 0x48 0x45 0x4C 0x4C 0x4F 0x20

end Sys2Proof.Machine
end

section
/-! SUPPORT. The Display Updater statements: the inverse of the physical index (45_display R102, R107), the state that a FLUSH in
IDLE leaves (R106), and that every emitted frame is that of a Frame Buffer in IDLE (R103). -/

namespace Sys2Proof.Machine

/-! ### The inverse of the physical index (45_display R107) -/

/-- The column of the window cell with physical index `k`, on a strip of direction `d`; the cell's strip is `k / 36`. -/
def columnOfPhys (d : Dir) (k : Nat) : Nat :=
  match d with
  | .asc => k % 36
  | .desc => 35 - k % 36

theorem columnOfPhys_lt (d : Dir) (k : Nat) : columnOfPhys d k < 36 := by
  cases d <;> simp only [columnOfPhys] <;> omega

theorem phys_eq_iff {d : Dir} {s c k : Nat} (hc : c < 36) : phys d s c = k ↔ s = k / 36 ∧ c = columnOfPhys d k := by
  cases d <;> simp only [phys, columnOfPhys] <;> omega

/-- Settles O32: a cell has index `k` exactly when it is the cell of the inverse, by `phys_eq_iff`. -/
theorem physicalIndexIsABijection : Obligations.PhysicalIndexIsABijection := by
  refine fun cfg => ⟨fun r c => phys_lt (dirOf cfg r) r c, fun k hk => ?_⟩
  have hcol := columnOfPhys_lt (dirOf cfg (k / 36)) k
  refine ⟨k / 36, columnOfPhys (dirOf cfg (k / 36)) k, by omega, hcol, (phys_eq_iff hcol).mpr ⟨rfl, rfl⟩, rfl, rfl, ?_⟩
  intro r c _ hc h
  obtain ⟨rfl, rfl⟩ := (phys_eq_iff hc).mp h
  exact ⟨rfl, rfl⟩

/-! ### FLUSH in IDLE (45_display R106) -/

/-- What a flush in IDLE leaves, field by field; PHASE is 0 in the STATUS it answers. -/
theorem flushed_of_idle {s : State} (h : s.phase = .idle) (a : Byte) :
    flushed a s = { s with
      code := if a = 0 then 0 else 4, txCode := a, txReplies := s.txReplies.tail, txDraws := s.txDraws + 1
      frames := s.frames ++ [frameOf s.config s.fb]
      responses := s.responses ++ [a ++ 0#3 ++ 0#1 ++ (if a = 0 then 0#4 else 4#4)] } := by
  apply State.ext_fields <;> simp [flushed, State.statusWord_eq, h, Phase.bit]

/-- Settles O30: the fields by `flushed_of_idle`, the elements of the frame by `frameOf_read`. -/
theorem flushEmitsTheWindow : Obligations.FlushEmitsTheWindow := by
  refine fun s a hidle ha => ⟨?_, fun r c hr hc => frameOf_read s.config s.fb r c hr hc⟩
  rw [exec_of_effect (.flush a hidle ha), flushed_of_idle hidle]

/-! ### Which instructions emit, and what (45_display R103) -/

@[simp] theorem rejected_frames (e : StatusCode) (s : State) : (rejected e s).frames = s.frames := rfl

/-- An instruction emits nothing, or it is one of the three that end with the flush of a state in IDLE. -/
theorem Effect.emits_nothing_or_flushes {i : Instr} {s s' : State} (h : Effect s i s') :
    s'.frames = s.frames ∨
      ((i = .flush ∧ s.phase = .idle) ∨ i = .displayText ∨ ∃ sym pos, i = .displaySymbol sym pos) ∧
        ∃ a u, s' = flushed a u ∧ u.phase = .idle ∧ u.frames = s.frames := by
  cases h with
  | flush a hidle _ => exact .inr ⟨.inl ⟨rfl, hidle⟩, a, s, rfl, hidle, rfl⟩
  | text a _ => exact .inr ⟨.inr (.inl rfl), a, _, rfl, by simp, by simp [textPicture]⟩
  | symbol sym pos a _ _ => exact .inr ⟨.inr (.inr ⟨sym, pos, rfl⟩), a, _, rfl, by simp, by simp [symbolPicture]⟩
  | _ => exact .inl (by simp)

/-- A flush keeps configuration, Frame Buffer and PHASE, so that its frame is that of the state it leaves. -/
theorem stableEmission_flushed {s u : State} (hidle : u.phase = .idle) (hframes : u.frames = s.frames) (a : Byte) :
    StableEmission s (flushed a u) :=
  .inr ⟨by simp [hidle], by simp [hframes]⟩

/-- Settles O47: the instructions that emit are those of `Effect.emits_nothing_or_flushes`, and each flushes in IDLE. -/
theorem framesShowOnlyIdleBuffers : Obligations.FramesShowOnlyIdleBuffers := by
  intro i s s' h
  obtain hnone | ⟨hi, a, u, rfl, hidle, hframes⟩ := (exec_effect h).emits_nothing_or_flushes
  · exact ⟨.inl hnone, fun hne => absurd hnone hne⟩
  · exact ⟨stableEmission_flushed hidle hframes a, fun _ => hi⟩

end Sys2Proof.Machine
end

section
/-! SUPPORT. The render command statements: the picture a display command leaves (46_render R110, R111), that nothing of the old one
is left, and that from IDLE the command is its paints, FILL and FLUSH with one response (R113). -/

namespace Sys2Proof.Machine

/-! ### One pass of either display command -/

/-- The picture of a render pass over `codes` from position `p` on: a clear Mask, the paint loop, the fill, and PHASE IDLE. -/
def passPicture (p : Nat) (codes : List Byte) (s : State) : State :=
  let painted := composeFrom s.config s.foreground p codes (newPass s).canvas
  { s with phase := .idle, fb := fillGrid painted.mask s.background painted.fb, mask := painted.mask }

theorem symbolPicture_eq_passPicture (sym : Byte) (pos : BitVec 4) (s : State) :
    symbolPicture sym pos s = passPicture pos.toNat [sym] s := rfl

theorem textPicture_eq_passPicture (s : State) : textPicture s = passPicture 1 s.textCodes s := rfl

section
variable (p : Nat) (codes : List Byte) (s : State)

/-- A cell is marked exactly when the last position that covers it has ink there: the pass starts with a clear Mask. -/
theorem passPicture_mask {r c : Nat} (hr : r < 7) (hc : c < 36) :
    maskRead (passPicture p codes s).mask r c = true ↔
      ∃ q, p ≤ q ∧ q < p + codes.length ∧ Config.covers s.config q c ∧
        ink s.config (codes.getD (q - p) 0) r (c - slotCol s.config q) = true ∧
        ∀ q', q < q' → q' < p + codes.length → ¬ Config.covers s.config q' c := by
  refine (composeFrom_mask _ _ _ _ _ _ _ hr hc).trans ((or_iff_left (by simp)).trans ?_)
  constructor
  · rintro ⟨i, hi, hcov, hink, hlast⟩
    refine ⟨p + i, by omega, by omega, hcov, ?_, fun q' hq hlen => ?_⟩
    · rwa [Nat.add_sub_cancel_left, List.getD_eq_getElem _ _ hi]
    · obtain ⟨j, rfl⟩ := Nat.exists_eq_add_of_le (by omega : p ≤ q')
      exact hlast j (by omega) (by omega)
  · rintro ⟨q, hpq, hlen, hcov, hink, hlast⟩
    obtain ⟨i, rfl⟩ := Nat.exists_eq_add_of_le hpq
    have hi : i < codes.length := by omega
    rw [Nat.add_sub_cancel_left, List.getD_eq_getElem _ _ hi] at hink
    exact ⟨i, hi, hcov, hink, fun j hij hj => hlast (p + j) (by omega) (by omega)⟩

theorem passPicture_fb {r c : Nat} (hr : r < 7) (hc : c < 72) :
    fbRead (passPicture p codes s).fb r c =
      if maskRead (passPicture p codes s).mask r c = true then s.foreground else s.background :=
  fillGrid_composeFrom_read _ _ _ _ _ rfl hr hc

/-- What a display command leaves, field by field but for the two grids. -/
theorem flushed_passPicture (a : Byte) :
    flushed a (passPicture p codes s) = { s with
      code := if a = 0 then 0 else 4, txCode := a, phase := .idle
      fb := (passPicture p codes s).fb, mask := (passPicture p codes s).mask
      txReplies := s.txReplies.tail, txDraws := s.txDraws + 1
      frames := s.frames ++ [frameOf s.config (passPicture p codes s).fb]
      responses := s.responses ++ [a ++ 0#3 ++ 0#1 ++ (if a = 0 then 0#4 else 4#4)] } :=
  flushed_of_idle (s := passPicture p codes s) rfl a

/-- The pass does not look at the grids and the phase that it starts from. -/
theorem passPicture_congr (fb : FrameBuffer) (mask : MaskGrid) (phase : Phase) :
    passPicture p codes { s with fb := fb, mask := mask, phase := phase } = passPicture p codes s := by
  apply State.ext_fields
  case h9 => exact fillGrid_composeFrom_congr _ _ _ _ _ rfl rfl
  case h10 => exact composeFrom_mask_congr _ _ _ _ rfl
  all_goals rfl

end

/-! ### The pictures (46_render R110, R111) -/

/-- Settles O33: one code is painted, so that its position is the last one that covers a cell of its slot. -/
theorem displaySymbolShowsOneGlyph : Obligations.DisplaySymbolShowsOneGlyph := by
  intro sym pos s a hlow hhigh ha
  have hexec := exec_of_effect (.symbol sym pos a ((validPos_iff pos).mpr ⟨hlow, hhigh⟩) ha)
  rw [symbolPicture_eq_passPicture, flushed_passPicture] at hexec
  refine ⟨_, hexec, rfl, fun r c hr hc => ?_, fun r c hr hc => passPicture_fb _ _ _ hr hc⟩
  rw [passPicture_mask _ _ _ hr hc]
  constructor
  · rintro ⟨q, hpq, hlen, hcov, hink, -⟩
    obtain rfl : q = pos.toNat := Nat.le_antisymm (Nat.le_of_lt_succ hlen) hpq
    exact ⟨hcov, by simpa using hink⟩
  · rintro ⟨hcov, hink⟩
    exact ⟨_, Nat.le_refl _, Nat.lt_succ_self _, hcov, by simpa using hink,
      fun q hq hlen => absurd hq (Nat.not_lt.mpr (Nat.le_of_lt_succ hlen))⟩

/-- Settles O34: the code of position `p` is the one of index `p - 1` in the payload. -/
theorem displayTextShowsSixGlyphs : Obligations.DisplayTextShowsSixGlyphs := by
  intro s a ha
  have hexec := exec_of_effect (.text a ha)
  rw [textPicture_eq_passPicture, flushed_passPicture] at hexec
  refine ⟨_, hexec, rfl, fun r c hr hc => ?_, fun r c hr hc => passPicture_fb _ _ _ hr hc⟩
  rw [passPicture_mask _ _ _ hr hc, ← State.textCodes]
  simp only [length_textCodes, Nat.lt_succ_iff (n := 6)]

/-! ### Nothing of the old picture is left (46_render R110 (a), R111 (a)) -/

/-- Settles O35: both commands flush the picture of a pass. -/
theorem displayForgetsTheOldPicture : Obligations.DisplayForgetsTheOldPicture := by
  refine fun s fb mask phase => ⟨?_, fun sym pos hlow hhigh => ?_⟩
  · exact congrArg flushFrame (passPicture_congr 1 s.textCodes s fb mask phase)
  · have hv := (validPos_iff pos).mpr ⟨hlow, hhigh⟩
    rw [exec_displaySymbol_of_valid hv, exec_displaySymbol_of_valid hv]
    exact congrArg flushFrame (passPicture_congr pos.toNat [sym] s fb mask phase)

/-! ### A payload without ink (46_render R111 (d)) -/

/-- A Frame Buffer of one colour gives a frame of that colour. -/
theorem frameRead_frameOf_of_uniform {fb : FrameBuffer} {bg : Pixel} (h : ∀ r c, r < 7 → c < 36 → fbRead fb r c = bg)
    (cfg : Config) {k : Nat} (hk : k < 252) : frameRead (frameOf cfg fb) k = bg := by
  obtain ⟨r, c, hr, hc, rfl⟩ := phys_surj (dirOf cfg) k hk
  rw [frameOf_read _ _ _ _ hr hc, h r c hr hc]

theorem decodePayload_zero (highFirst : Bool) : decodePayload highFirst 0 0 0 = List.replicate 6 0 := by
  cases highFirst <;> rfl

/-- Settles O39: code 0 is undefined and so has no ink, which leaves every cell of the picture background. -/
theorem zeroPayloadShowsTheBackground : Obligations.ZeroPayloadShowsTheBackground := by
  intro s a hv h0 h1 h2 ha
  obtain ⟨t, hexec, ht, hmask, hfb⟩ := displayTextShowsSixGlyphs s a ha
  rw [h0, h1, h2, decodePayload_zero] at hmask
  have hblank : BlankCode s.config 0 := blankCode_of_undefined hv (by decide)
  refine ⟨t, frameOf s.config t.fb, hexec, by rw [ht], fun k hk => frameRead_frameOf_of_uniform (fun r c hr hc => ?_) _ hk⟩
  rw [hfb r c hr (by omega), if_neg]
  rw [hmask r c hr hc]
  rintro ⟨p, hlow, hhigh, -, hink, -⟩
  rw [List.getD_replicate 0 (by omega), hblank.ink hr] at hink
  exact absurd hink (by decide)

/-! ### A display command and its parts (46_render R113) -/

/-- PAINTs of `codes` at positions `p`, `p + 1`, ... -/
def paintsFrom : Nat → List Byte → List Instr
  | _, [] => []
  | p, code :: rest => .paint code (BitVec.ofNat 4 p) :: paintsFrom (p + 1) rest

theorem startPass_of_idle {s : State} (h : s.phase = .idle) : startPass s = newPass s := by
  unfold startPass
  rw [h]
  rfl

/-- `exec_paint_of_valid` with the position as a number. -/
theorem exec_paint_of_position {p : Nat} (hlow : 1 ≤ p) (hhigh : p ≤ 6) (sym : Byte) (s : State) :
    exec (.paint sym (BitVec.ofNat 4 p)) s = .next { s with
      code := 0, txCode := 0, phase := .composing, responses := s.responses ++ [0x0010]
      fb := (paintCanvas s.config sym p s.foreground (startPass s).canvas).fb
      mask := (paintCanvas s.config sym p s.foreground (startPass s).canvas).mask } := by
  have hp : (BitVec.ofNat 4 p).toNat = p := (BitVec.toNat_ofNat p 4).trans (Nat.mod_eq_of_lt (by omega))
  rw [exec_paint_of_valid ((validPos_iff _).mpr (by omega)), hp]

/-- PAINTs of at least one code are the paint loop, but for what they leave in STATUS and answer. Only the first can find IDLE and
start the pass. -/
theorem execAll_paintsFrom (rest : List Instr) (codes : List Byte) :
    ∀ (p : Nat) (sym : Byte) (s : State), 1 ≤ p → p + codes.length ≤ 6 →
      let painted := composeFrom s.config s.foreground p (sym :: codes) (startPass s).canvas
      ∃ code txCode responses, execAll (paintsFrom p (sym :: codes) ++ rest) s = execAll rest { s with
        code := code, txCode := txCode, phase := .composing, responses := responses
        fb := painted.fb, mask := painted.mask } := by
  induction codes with
  | nil =>
    exact fun p sym s hlow hhigh => ⟨_, _, _, execAll_cons_of_next (exec_paint_of_position hlow hhigh sym s) rest⟩
  | cons sym' codes ih =>
    intro p sym s hlow hhigh
    rw [List.length_cons] at hhigh
    rw [paintsFrom, List.cons_append, execAll_cons_of_next (exec_paint_of_position hlow (by omega) sym s)]
    exact ih (p + 1) sym' _ (by omega) (by omega)

theorem exec_flush_of_idle {s : State} (h : s.phase = .idle) : exec .flush s = flushFrame s := by
  simp [exec, execFlush, h]

/-- A flush overwrites STATUS, so that what was in it shows in the earlier responses alone. -/
theorem flushed_overwrites_status (a : Byte) (s : State) (code : BitVec 4) (txCode : Byte) (responses : List Word) :
    flushed a s =
      let u := flushed a { s with code := code, txCode := txCode, responses := responses }
      { u with responses := s.responses ++ [u.statusWord] } := by
  apply State.ext_fields <;> simp [flushed, State.statusWord_eq]

theorem execAll_singleton (i : Instr) (s : State) : execAll [i] s = exec i s := by
  rw [execAll]
  cases exec i s <;> rfl

/-- PAINTs of at least one code from IDLE, FILL and FLUSH flush the picture of one pass. -/
theorem flushFrame_passPicture_of_parts {p : Nat} {sym : Byte} {codes : List Byte} {s u : State} (hidle : s.phase = .idle)
    (hlow : 1 ≤ p) (hhigh : p + codes.length ≤ 6)
    (h : execAll (paintsFrom p (sym :: codes) ++ [.fill, .flush]) s = .next u) :
    flushFrame (passPicture p (sym :: codes) s) = .next { u with responses := s.responses ++ [u.statusWord] } := by
  obtain ⟨code, txCode, responses, hpaints⟩ := execAll_paintsFrom [.fill, .flush] codes p sym s hlow hhigh
  rw [hpaints, startPass_of_idle hidle, execAll_cons_of_next (exec_fill _), execAll_singleton,
    exec_flush_of_idle rfl] at h
  obtain ⟨a, ha, rfl⟩ := flushFrame_next h
  rw [flushFrame_of_reply (s := passPicture p (sym :: codes) s) ha]
  exact congrArg _ (flushed_overwrites_status a (passPicture p (sym :: codes) s) _ _ _)

/-- Settles O36: the pass of one PAINT. -/
theorem displaySymbolEqualsItsParts : Obligations.DisplaySymbolEqualsItsParts := by
  intro sym pos s u hidle hlow hhigh h
  have hparts : paintsFrom pos.toNat [sym] = [.paint sym pos] := by simp [paintsFrom]
  rw [exec_displaySymbol_of_valid ((validPos_iff pos).mpr ⟨hlow, hhigh⟩), symbolPicture_eq_passPicture]
  exact flushFrame_passPicture_of_parts hidle hlow hhigh (by rwa [hparts])

/-- Settles O37: the pass of six PAINTs; the codes are those of the payload. -/
theorem displayTextEqualsItsParts : Obligations.DisplayTextEqualsItsParts := by
  intro s u c1 c2 c3 c4 c5 c6 hidle hcodes h
  rw [exec_displayText, textPicture_eq_passPicture, State.textCodes, hcodes]
  exact flushFrame_passPicture_of_parts hidle (Nat.le_refl 1) (Nat.le_refl 6) h

end Sys2Proof.Machine
end

section
/-! SUPPORT. The host port statements: what a read answers (47_host R121), what a register write stores (R120), and the two writes
that are ignored (R122). -/

namespace Sys2Proof.Machine

/-! ### The sums of 30_encoding R58, decoded -/

theorem decode_readSum (reg : HostReg) : decode (addrBits reg <<< 16) = .rd reg :=
  (congrArg decode (assemble_rd reg)).trans (decodeInvertsEncode (.rd reg) rfl)

theorem decode_writeSum (reg : HostReg) (d : Word) :
    decode (0x80000 + (addrBits reg <<< 16) + d.setWidth 20) = writeInstr reg d :=
  (congrArg decode (assemble_wr reg d)).trans (decode_encodeWrite reg d)

/-! ### Reads and writes (47_host R120 to R122) -/

theorem Phase.bit_eq_ite (p : Phase) : p.bit = if p = .composing then 1#1 else 0#1 := by cases p <;> rfl

/-- Settles O13: STATUS shows PHASE by `Phase.bit_eq_ite`; every other register is read as it stands. -/
theorem readAnswersTheRegister : Obligations.ReadAnswersTheRegister := by
  refine fun s reg => ⟨decode_readSum reg, (exec_of_effect (.read reg)).trans ?_⟩
  cases reg with
  | status => rw [← Phase.bit_eq_ite]; rfl
  | _ => rfl

/-- Settles O14: the sums by `decode_writeSum`, the next states by the writes of `Effect`. -/
theorem writeStoresTheRegister : Obligations.WriteStoresTheRegister := fun d _ =>
  ⟨⟨decode_writeSum .fgColor d, decode_writeSum .bgColor d, decode_writeSum .text0 d, decode_writeSum .text1 d,
      decode_writeSum .text2 d⟩,
    exec_of_effect (.writeFgColor d), exec_of_effect (.writeBgColor d), exec_of_effect (.writeText0 d),
    exec_of_effect (.writeText1 d), exec_of_effect (.writeText2 d)⟩

/-- Settles O15: the sums by `decode_writeSum`; both writes respond and do nothing else. -/
theorem writeToStatusOrAddressSevenIsIgnored : Obligations.WriteToStatusOrAddressSevenIsIgnored := fun d _ =>
  ⟨⟨decode_writeSum .status d, decode_writeSum .r7 d⟩, exec_of_effect (.writeStatus d), exec_of_effect (.writeR7 d)⟩

end Sys2Proof.Machine
end

section
/-! SUPPORT. The exception statements: which commands are rejected and with which code (60_exceptions R131 to R133), that nothing
else ends with these codes, and that a rejection changes only STATUS (R134). -/

namespace Sys2Proof.Machine

/-! ### The state a rejection leaves (60_exceptions R134) -/

theorem rejected_eq (e : StatusCode) (s : State) :
    rejected e s = { s with
      code := e.bits, txCode := 0
      responses := s.responses ++ [0#8 ++ 0#3 ++ (if s.phase = .composing then 1#1 else 0#1) ++ e.bits] } := by
  rw [← Phase.bit_eq_ite]
  rfl

/-- `rejected_eq` with the response as STATUS of the state that is left. -/
theorem rejected_eq_of_status (e : StatusCode) (s : State) :
    rejected e s = { s with
      code := (rejected e s).code, txCode := 0, responses := s.responses ++ [(rejected e s).statusWord] } := rfl

/-! ### The rejected commands (60_exceptions R131 to R133) -/

/-- In `s` the command is rejected with this code. -/
inductive Rejection (s : State) : Instr → StatusCode → Prop where
  | paintPosition (sym : Byte) {pos : BitVec 4} (h : validPos pos = false) : Rejection s (.paint sym pos) .errPosition
  | symbolPosition (sym : Byte) {pos : BitVec 4} (h : validPos pos = false) :
      Rejection s (.displaySymbol sym pos) .errPosition
  | phase (h : s.phase = .composing) : Rejection s .flush .errPhase
  | opcode {i : Instr} (h : i ∈ reservedInstrs) : Rejection s i .errOpcode

theorem exec_of_rejection {s : State} {i : Instr} {e : StatusCode} (h : Rejection s i e) :
    exec i s = .next (rejected e s) := by
  cases h with
  | paintPosition sym h => exact exec_of_effect (.paintRejected sym _ h)
  | symbolPosition sym h => exact exec_of_effect (.symbolRejected sym _ h)
  | phase h => exact exec_of_effect (.flushRejected h)
  | opcode h => exact exec_of_effect (.reserved _ h)

theorem flushed_code (a : Byte) (s : State) : (flushed a s).code = 0 ∨ (flushed a s).code = 4 :=
  (ite_eq_or_eq (a = 0) 0 4).imp (State.takeReply_code _ a).trans (State.takeReply_code _ a).trans

/-- A command ends with OK, with ERR_TX, or as a rejection. -/
theorem Effect.ok_or_errTx_or_rejection {s s' : State} {i : Instr} (h : Effect s i s') (hi : i.isCommand = true) :
    s'.code = 0 ∨ s'.code = 4 ∨ ∃ e, Rejection s i e ∧ s' = rejected e s := by
  cases h with
  | read _ | writeStatus _ | writeFgColor _ | writeBgColor _ | writeText0 _ | writeText1 _ | writeText2 _ | writeR7 _ =>
    cases hi
  | reserved _ h => exact .inr (.inr ⟨_, .opcode h, rfl⟩)
  | paintRejected sym _ h => exact .inr (.inr ⟨_, .paintPosition sym h, rfl⟩)
  | symbolRejected sym _ h => exact .inr (.inr ⟨_, .symbolPosition sym h, rfl⟩)
  | flushRejected h => exact .inr (.inr ⟨_, .phase h, rfl⟩)
  | paint _ _ _ | fill => exact .inl rfl
  | flush a _ _ | symbol _ _ a _ _ | text a _ => exact (flushed_code a _).imp_right .inl

/-- A command that ends with one of the codes 1 to 3 was rejected with that code. -/
theorem rejection_of_code {s s' : State} {i : Instr} (hi : i.isCommand = true) (h : exec i s = .next s')
    (hlow : 1 ≤ s'.code.toNat) (hhigh : s'.code.toNat ≤ 3) : ∃ e, Rejection s i e ∧ s' = rejected e s := by
  obtain h0 | h4 | hrej := (exec_effect h).ok_or_errTx_or_rejection hi
  · rw [h0] at hlow; exact absurd hlow (by decide)
  · rw [h4] at hhigh; exact absurd hhigh (by decide)
  · exact hrej

/-- Settles O23: the command was rejected, and a rejection leaves every other field. -/
theorem rejectionChangesOnlyStatus : Obligations.RejectionChangesOnlyStatus := by
  intro i s s' hi h hlow hhigh
  obtain ⟨e, -, rfl⟩ := rejection_of_code hi h hlow hhigh
  exact rejected_eq_of_status e s

/-! ### ERR_POSITION (60_exceptions R131) -/

theorem validPos_eq_false_iff (pos : BitVec 4) : validPos pos = false ↔ pos.toNat = 0 ∨ 7 ≤ pos.toNat := by
  rw [← Bool.not_eq_true, validPos_iff]
  omega

/-- Settles O19: both commands are rejected at an invalid position, and no other rejection has code 1. -/
theorem invalidPositionIsRejected : Obligations.InvalidPositionIsRejected := by
  refine ⟨fun sym pos s hpos => ?_, fun i s s' hi h hcode => ?_⟩
  · have hv := (validPos_eq_false_iff pos).mpr hpos
    rw [exec_of_rejection (.symbolPosition sym hv), exec_of_rejection (.paintPosition sym hv), rejected_eq]
    exact ⟨rfl, rfl⟩
  · obtain ⟨e, hrej, rfl⟩ := rejection_of_code hi h (by simp [hcode]) (by simp [hcode])
    have hbits : e.bits = 1 := hcode
    cases hrej with
    | paintPosition sym hv => exact ⟨sym, _, .inl rfl, (validPos_eq_false_iff _).mp hv⟩
    | symbolPosition sym hv => exact ⟨sym, _, .inr rfl, (validPos_eq_false_iff _).mp hv⟩
    | phase _ | opcode _ => exact absurd hbits (by decide)

/-! ### ERR_PHASE (60_exceptions R132) -/

/-- Settles O20: FLUSH is rejected in COMPOSING, no other rejection has code 2, and FILL leaves IDLE. -/
theorem flushWhileComposingIsRejected : Obligations.FlushWhileComposingIsRejected := by
  refine ⟨fun s hphase => ?_, fun i s s' hi h hcode => ?_, fun s => ⟨_, exec_fill s, rfl⟩⟩
  · rw [exec_of_rejection (.phase hphase), rejected_eq, if_pos hphase]
    rfl
  · obtain ⟨e, hrej, rfl⟩ := rejection_of_code hi h (by simp [hcode]) (by simp [hcode])
    have hbits : e.bits = 2 := hcode
    cases hrej with
    | phase hphase => exact ⟨rfl, hphase⟩
    | paintPosition _ _ | symbolPosition _ _ | opcode _ => exact absurd hbits (by decide)

/-! ### ERR_OPCODE (60_exceptions R133) -/

/-- Settles O22: `reservedInstrs` is the list of the statement. -/
theorem reservedInstructionsChangeOnlyStatus : Obligations.ReservedInstructionsChangeOnlyStatus := by
  intro s i hi
  rw [exec_of_rejection (.opcode hi), rejected_eq]
  rfl

theorem decodeCommand_mem_reservedInstrs :
    ∀ op : BitVec 4, op = 0 ∨ 6 ≤ op.toNat → decodeCommand (commandWord op 0 0) ∈ reservedInstrs := by decide

/-- Settles O21: a reserved opcode is neither DISPLAY_SYMBOL's nor PAINT's, so its command ignores its other bits. -/
theorem reservedOpcodeIsRejected : Obligations.ReservedOpcodeIsRejected := by
  intro op x s hop
  have h1 : op ≠ 1 := by rintro rfl; exact absurd hop (by decide)
  have h3 : op ≠ 3 := by rintro rfl; exact absurd hop (by decide)
  rw [decode_command_ignores h1 h3]
  exact reservedInstructionsChangeOnlyStatus s _ (decodeCommand_mem_reservedInstrs op hop)

end Sys2Proof.Machine
end

section
/-! SUPPORT. The reset and hazard statements: a step with nothing presented, reset between transactions and during one (70_reset
R150 to R152), and the hang of a silent transmitter (R158). -/

namespace Sys2Proof.Machine

/-! ### Waiting and reset (70_reset R150) -/

/-- Settles O8: nothing is presented, so the step waits. -/
theorem stepWaitsWhenNothingIsPresented : Obligations.StepWaitsWhenNothingIsPresented :=
  fun _ => step_of_no_event

theorem present_of_resetDuring {s : State} {t : Transaction} {rest : List HostEvent} (hv : s.config.valid = true)
    (hq : s.hostQueue = .resetDuring t :: rest) : present s = .refuse .resetDuringTransaction := by
  simp [present, hv, hq]

/-- Settles O12: `applyReset` keeps the four fields named and no other; a reset during a transaction has no presentation but the
refusal. -/
theorem resetRestoresTheCore : Obligations.ResetRestoresTheCore :=
  ⟨fun _ _ hv hq => step_of_reset hv hq, fun _ _ _ hv hq => by simp [step, present_of_resetDuring hv hq]⟩

/-! ### A silent transmitter (70_reset R158) -/

theorem flushFrame_of_never {s : State} (h : s.nextAnswer = .never) : flushFrame s = .fault .transmitterSilent := by
  simp [flushFrame, h]

/-- Settles O31: the three commands end with the flush of a state that waits for the same answer. -/
theorem silentTransmitterHangsTheCore : Obligations.SilentTransmitterHangsTheCore := by
  refine fun s hnever => ⟨fun hidle => ?_, ?_, fun sym pos hlow hhigh => ?_⟩
  · rw [exec_flush_of_idle hidle, flushFrame_of_never hnever]
  · rw [exec_displayText, flushFrame_of_never ((nextAnswer_textPicture s).trans hnever)]
  · rw [exec_displaySymbol_of_valid ((validPos_iff pos).mpr ⟨hlow, hhigh⟩),
      flushFrame_of_never ((nextAnswer_symbolPicture sym pos s).trans hnever)]

end Sys2Proof.Machine
end
